-- ==== Sys2Proof/Word.lean ====
section
/-! DEFINITION. The word types of the 65C816 (00_scope.md R7) and the two operand widths (00_scope.md R9). -/

namespace Sys2Proof

/-- One byte: the unit of addressing (20_memory.md R60). -/
abbrev Byte := BitVec 8

/-- Sixteen bits: the width of `A`, `X`, `Y`, `D`, `S` and `PC` (10_state.md R20). -/
abbrev Word := BitVec 16

/-- A 24-bit address: bank in bits 23..16 (20_memory.md R60, R61). -/
abbrev Addr := BitVec 24

/-- The two operand widths an instruction can have (00_scope.md R9: `wm`, `wx`). -/
inductive Width where
  | w8
  | w16
deriving DecidableEq, Repr

/-- The number of bits of a width. -/
abbrev Width.bits : Width → Nat
  | .w8 => 8
  | .w16 => 16

end Sys2Proof
end

