-- ==== Sys2Proof/Syntax.lean ====
section
/-! DEFINITION. The instructions: one constructor of `Instr` per row of spec/opcode_table.json (the map of
30_encoding.md R95), its fields the operand bytes of its format (R91). Beside it, as data about the syntax, the
mnemonic, the opcode byte and the operand form of each row. -/

namespace Sys2Proof

/-- The operand of the `#` forms: 8 or 16 bits in the instruction itself (30_encoding.md R91 `IMM_M`, `IMM_X`). -/
inductive Imm where
  | b8 (v : Byte)
  | b16 (v : Word)
deriving DecidableEq, Repr

/-- The fifteen addressing modes that name a data operand in memory, each with its operand field
(40_addressing_modes.md R121, rows 4 to 16, 20 and 21). -/
inductive Mode where
  /-- `zp` -/
  | zp (zp : Byte)
  /-- `zp,X` -/
  | zpX (zp : Byte)
  /-- `zp,Y` -/
  | zpY (zp : Byte)
  /-- `(zp)` -/
  | zpInd (zp : Byte)
  /-- `(zp,X)` -/
  | zpXInd (zp : Byte)
  /-- `(zp),Y` -/
  | zpIndY (zp : Byte)
  /-- `[zp]` -/
  | zpIndLong (zp : Byte)
  /-- `[zp],Y` -/
  | zpIndLongY (zp : Byte)
  /-- `ds,S` -/
  | sr (ds : Byte)
  /-- `(ds,S),Y` -/
  | srIndY (ds : Byte)
  /-- `abs` -/
  | abs (abs : Word)
  /-- `abs,X` -/
  | absX (abs : Word)
  /-- `abs,Y` -/
  | absY (abs : Word)
  /-- `long` -/
  | long (long : Addr)
  /-- `long,X` -/
  | longX (long : Addr)
deriving DecidableEq, Repr

/-- The operand of an instruction that takes its data from an immediate or from memory. -/
inductive DataOperand where
  | imm (v : Imm)
  | mem (m : Mode)
deriving DecidableEq, Repr

/-- The operand forms of the opcode table (its column `mode`), each with its operand bytes. -/
inductive Form where
  /-- no operand byte -/
  | implied
  /-- BRK's signature byte (`OP_SIG8`) -/
  | sig (b : Byte)
  /-- the accumulator -/
  | acc
  /-- `#`, or one of the fifteen memory modes -/
  | data (o : DataOperand)
  /-- `#$xx` -/
  | imm8 (b : Byte)
  /-- `#$xxxx` -/
  | imm16 (w : Word)
  /-- `(abs)` -/
  | absInd (abs : Word)
  /-- `(abs,X)` -/
  | absXInd (abs : Word)
  /-- `[abs]` -/
  | absIndLong (abs : Word)
  /-- `rel` -/
  | rel (rel : Byte)
  /-- `rell` -/
  | rell (rell : Word)
  /-- block move: destination bank, then source bank, as they lie in memory (48_block_move.md R320) -/
  | blk (dst src : Byte)
deriving DecidableEq, Repr

/-- The 87 mnemonics of the opcode table. -/
inductive Mnemonic where
  | adc | and | asl | bcc | bcs | beq | bit | bmi
  | bne | bpl | bra | brk | bvc | bvs | clc | cld
  | cli | clv | cmp | cop | cpx | cpy | dec | dex
  | dey | eor | inc | inx | iny | jmp | jsr | lda
  | ldx | ldy | lsr | mvn | mvp | nop | ora | pea
  | pha | phb | phd | phk | php | phx | phy | pla
  | plb | pld | plp | plx | ply | rep | rol | ror
  | rti | rtl | rts | sbc | sec | sed | sei | sep
  | sta | stp | stx | sty | stz | tax | tay | tcd
  | tcs | tdc | trb | tsb | tsc | tsx | txa | txs
  | txy | tya | tyx | wai | wdm | xba | xce
deriving DecidableEq, Repr

/-- The instructions, one constructor per row of the opcode table (30_encoding.md R95): in opcode order, the rows
with operand bytes first and the rows without after them (Lean compiles no field for a constructor whose number
is above 244). -/
inductive Instr where
  /-- `$00` BRK implied (R330) -/
  | brk (sig : Byte)
  /-- `$01` ORA (zp,X) (R188) -/
  | oraZpXInd (zp : Byte)
  /-- `$02` COP #$xx (R331) -/
  | cop (imm8 : Byte)
  /-- `$03` ORA ds,S (R188) -/
  | oraSr (ds : Byte)
  /-- `$04` TSB zp (R191) -/
  | tsbZp (zp : Byte)
  /-- `$05` ORA zp (R188) -/
  | oraZp (zp : Byte)
  /-- `$06` ASL zp (R201) -/
  | aslZp (zp : Byte)
  /-- `$07` ORA [zp] (R188) -/
  | oraZpIndLong (zp : Byte)
  /-- `$09` ORA # (R188) -/
  | oraImm (v : Imm)
  /-- `$0C` TSB abs (R191) -/
  | tsbAbs (abs : Word)
  /-- `$0D` ORA abs (R188) -/
  | oraAbs (abs : Word)
  /-- `$0E` ASL abs (R201) -/
  | aslAbs (abs : Word)
  /-- `$0F` ORA long (R188) -/
  | oraLong (long : Addr)
  /-- `$10` BPL rel (R226) -/
  | bpl (rel : Byte)
  /-- `$11` ORA (zp),Y (R188) -/
  | oraZpIndY (zp : Byte)
  /-- `$12` ORA (zp) (R188) -/
  | oraZpInd (zp : Byte)
  /-- `$13` ORA (ds,S),Y (R188) -/
  | oraSrIndY (ds : Byte)
  /-- `$14` TRB zp (R190) -/
  | trbZp (zp : Byte)
  /-- `$15` ORA zp,X (R188) -/
  | oraZpX (zp : Byte)
  /-- `$16` ASL zp,X (R201) -/
  | aslZpX (zp : Byte)
  /-- `$17` ORA [zp],Y (R188) -/
  | oraZpIndLongY (zp : Byte)
  /-- `$19` ORA abs,Y (R188) -/
  | oraAbsY (abs : Word)
  /-- `$1C` TRB abs (R190) -/
  | trbAbs (abs : Word)
  /-- `$1D` ORA abs,X (R188) -/
  | oraAbsX (abs : Word)
  /-- `$1E` ASL abs,X (R201) -/
  | aslAbsX (abs : Word)
  /-- `$1F` ORA long,X (R188) -/
  | oraLongX (long : Addr)
  /-- `$20` JSR abs (R232) -/
  | jsrAbs (abs : Word)
  /-- `$21` AND (zp,X) (R182) -/
  | andZpXInd (zp : Byte)
  /-- `$22` JSR long (R233) -/
  | jsrLong (long : Addr)
  /-- `$23` AND ds,S (R182) -/
  | andSr (ds : Byte)
  /-- `$24` BIT zp (R183) -/
  | bitZp (zp : Byte)
  /-- `$25` AND zp (R182) -/
  | andZp (zp : Byte)
  /-- `$26` ROL zp (R209) -/
  | rolZp (zp : Byte)
  /-- `$27` AND [zp] (R182) -/
  | andZpIndLong (zp : Byte)
  /-- `$29` AND # (R182) -/
  | andImm (v : Imm)
  /-- `$2C` BIT abs (R183) -/
  | bitAbs (abs : Word)
  /-- `$2D` AND abs (R182) -/
  | andAbs (abs : Word)
  /-- `$2E` ROL abs (R209) -/
  | rolAbs (abs : Word)
  /-- `$2F` AND long (R182) -/
  | andLong (long : Addr)
  /-- `$30` BMI rel (R224) -/
  | bmi (rel : Byte)
  /-- `$31` AND (zp),Y (R182) -/
  | andZpIndY (zp : Byte)
  /-- `$32` AND (zp) (R182) -/
  | andZpInd (zp : Byte)
  /-- `$33` AND (ds,S),Y (R182) -/
  | andSrIndY (ds : Byte)
  /-- `$34` BIT zp,X (R183) -/
  | bitZpX (zp : Byte)
  /-- `$35` AND zp,X (R182) -/
  | andZpX (zp : Byte)
  /-- `$36` ROL zp,X (R209) -/
  | rolZpX (zp : Byte)
  /-- `$37` AND [zp],Y (R182) -/
  | andZpIndLongY (zp : Byte)
  /-- `$39` AND abs,Y (R182) -/
  | andAbsY (abs : Word)
  /-- `$3C` BIT abs,X (R183) -/
  | bitAbsX (abs : Word)
  /-- `$3D` AND abs,X (R182) -/
  | andAbsX (abs : Word)
  /-- `$3E` ROL abs,X (R209) -/
  | rolAbsX (abs : Word)
  /-- `$3F` AND long,X (R182) -/
  | andLongX (long : Addr)
  /-- `$41` EOR (zp,X) (R187) -/
  | eorZpXInd (zp : Byte)
  /-- `$43` EOR ds,S (R187) -/
  | eorSr (ds : Byte)
  /-- `$44` MVP blk (R322) -/
  | mvp (dst src : Byte)
  /-- `$45` EOR zp (R187) -/
  | eorZp (zp : Byte)
  /-- `$46` LSR zp (R208) -/
  | lsrZp (zp : Byte)
  /-- `$47` EOR [zp] (R187) -/
  | eorZpIndLong (zp : Byte)
  /-- `$49` EOR # (R187) -/
  | eorImm (v : Imm)
  /-- `$4C` JMP abs (R231) -/
  | jmpAbs (abs : Word)
  /-- `$4D` EOR abs (R187) -/
  | eorAbs (abs : Word)
  /-- `$4E` LSR abs (R208) -/
  | lsrAbs (abs : Word)
  /-- `$4F` EOR long (R187) -/
  | eorLong (long : Addr)
  /-- `$50` BVC rel (R229) -/
  | bvc (rel : Byte)
  /-- `$51` EOR (zp),Y (R187) -/
  | eorZpIndY (zp : Byte)
  /-- `$52` EOR (zp) (R187) -/
  | eorZpInd (zp : Byte)
  /-- `$53` EOR (ds,S),Y (R187) -/
  | eorSrIndY (ds : Byte)
  /-- `$54` MVN blk (R321) -/
  | mvn (dst src : Byte)
  /-- `$55` EOR zp,X (R187) -/
  | eorZpX (zp : Byte)
  /-- `$56` LSR zp,X (R208) -/
  | lsrZpX (zp : Byte)
  /-- `$57` EOR [zp],Y (R187) -/
  | eorZpIndLongY (zp : Byte)
  /-- `$59` EOR abs,Y (R187) -/
  | eorAbsY (abs : Word)
  /-- `$5C` JMP long (R236) -/
  | jmpLong (long : Addr)
  /-- `$5D` EOR abs,X (R187) -/
  | eorAbsX (abs : Word)
  /-- `$5E` LSR abs,X (R208) -/
  | lsrAbsX (abs : Word)
  /-- `$5F` EOR long,X (R187) -/
  | eorLongX (long : Addr)
  /-- `$61` ADC (zp,X) (R181) -/
  | adcZpXInd (zp : Byte)
  /-- `$62` PEA rell (R253) -/
  | peaRell (rell : Word)
  /-- `$63` ADC ds,S (R181) -/
  | adcSr (ds : Byte)
  /-- `$64` STZ zp (R167) -/
  | stzZp (zp : Byte)
  /-- `$65` ADC zp (R181) -/
  | adcZp (zp : Byte)
  /-- `$66` ROR zp (R210) -/
  | rorZp (zp : Byte)
  /-- `$67` ADC [zp] (R181) -/
  | adcZpIndLong (zp : Byte)
  /-- `$69` ADC # (R181) -/
  | adcImm (v : Imm)
  /-- `$6C` JMP (abs) (R231) -/
  | jmpAbsInd (abs : Word)
  /-- `$6D` ADC abs (R181) -/
  | adcAbs (abs : Word)
  /-- `$6E` ROR abs (R210) -/
  | rorAbs (abs : Word)
  /-- `$6F` ADC long (R181) -/
  | adcLong (long : Addr)
  /-- `$70` BVS rel (R230) -/
  | bvs (rel : Byte)
  /-- `$71` ADC (zp),Y (R181) -/
  | adcZpIndY (zp : Byte)
  /-- `$72` ADC (zp) (R181) -/
  | adcZpInd (zp : Byte)
  /-- `$73` ADC (ds,S),Y (R181) -/
  | adcSrIndY (ds : Byte)
  /-- `$74` STZ zp,X (R167) -/
  | stzZpX (zp : Byte)
  /-- `$75` ADC zp,X (R181) -/
  | adcZpX (zp : Byte)
  /-- `$76` ROR zp,X (R210) -/
  | rorZpX (zp : Byte)
  /-- `$77` ADC [zp],Y (R181) -/
  | adcZpIndLongY (zp : Byte)
  /-- `$79` ADC abs,Y (R181) -/
  | adcAbsY (abs : Word)
  /-- `$7C` JMP (abs,X) (R231) -/
  | jmpAbsXInd (abs : Word)
  /-- `$7D` ADC abs,X (R181) -/
  | adcAbsX (abs : Word)
  /-- `$7E` ROR abs,X (R210) -/
  | rorAbsX (abs : Word)
  /-- `$7F` ADC long,X (R181) -/
  | adcLongX (long : Addr)
  /-- `$80` BRA rel (R227) -/
  | braRel (rel : Byte)
  /-- `$81` STA (zp,X) (R164) -/
  | staZpXInd (zp : Byte)
  /-- `$82` BRA rell (R228) -/
  | braRell (rell : Word)
  /-- `$83` STA ds,S (R164) -/
  | staSr (ds : Byte)
  /-- `$84` STY zp (R166) -/
  | styZp (zp : Byte)
  /-- `$85` STA zp (R164) -/
  | staZp (zp : Byte)
  /-- `$86` STX zp (R165) -/
  | stxZp (zp : Byte)
  /-- `$87` STA [zp] (R164) -/
  | staZpIndLong (zp : Byte)
  /-- `$89` BIT # (R183) -/
  | bitImm (v : Imm)
  /-- `$8C` STY abs (R166) -/
  | styAbs (abs : Word)
  /-- `$8D` STA abs (R164) -/
  | staAbs (abs : Word)
  /-- `$8E` STX abs (R165) -/
  | stxAbs (abs : Word)
  /-- `$8F` STA long (R164) -/
  | staLong (long : Addr)
  /-- `$90` BCC rel (R221) -/
  | bcc (rel : Byte)
  /-- `$91` STA (zp),Y (R164) -/
  | staZpIndY (zp : Byte)
  /-- `$92` STA (zp) (R164) -/
  | staZpInd (zp : Byte)
  /-- `$93` STA (ds,S),Y (R164) -/
  | staSrIndY (ds : Byte)
  /-- `$94` STY zp,X (R166) -/
  | styZpX (zp : Byte)
  /-- `$95` STA zp,X (R164) -/
  | staZpX (zp : Byte)
  /-- `$96` STX zp,Y (R165) -/
  | stxZpY (zp : Byte)
  /-- `$97` STA [zp],Y (R164) -/
  | staZpIndLongY (zp : Byte)
  /-- `$99` STA abs,Y (R164) -/
  | staAbsY (abs : Word)
  /-- `$9C` STZ abs (R167) -/
  | stzAbs (abs : Word)
  /-- `$9D` STA abs,X (R164) -/
  | staAbsX (abs : Word)
  /-- `$9E` STZ abs,X (R167) -/
  | stzAbsX (abs : Word)
  /-- `$9F` STA long,X (R164) -/
  | staLongX (long : Addr)
  /-- `$A0` LDY # (R163) -/
  | ldyImm (v : Imm)
  /-- `$A1` LDA (zp,X) (R161) -/
  | ldaZpXInd (zp : Byte)
  /-- `$A2` LDX # (R162) -/
  | ldxImm (v : Imm)
  /-- `$A3` LDA ds,S (R161) -/
  | ldaSr (ds : Byte)
  /-- `$A4` LDY zp (R163) -/
  | ldyZp (zp : Byte)
  /-- `$A5` LDA zp (R161) -/
  | ldaZp (zp : Byte)
  /-- `$A6` LDX zp (R162) -/
  | ldxZp (zp : Byte)
  /-- `$A7` LDA [zp] (R161) -/
  | ldaZpIndLong (zp : Byte)
  /-- `$A9` LDA # (R161) -/
  | ldaImm (v : Imm)
  /-- `$AC` LDY abs (R163) -/
  | ldyAbs (abs : Word)
  /-- `$AD` LDA abs (R161) -/
  | ldaAbs (abs : Word)
  /-- `$AE` LDX abs (R162) -/
  | ldxAbs (abs : Word)
  /-- `$AF` LDA long (R161) -/
  | ldaLong (long : Addr)
  /-- `$B0` BCS rel (R222) -/
  | bcs (rel : Byte)
  /-- `$B1` LDA (zp),Y (R161) -/
  | ldaZpIndY (zp : Byte)
  /-- `$B2` LDA (zp) (R161) -/
  | ldaZpInd (zp : Byte)
  /-- `$B3` LDA (ds,S),Y (R161) -/
  | ldaSrIndY (ds : Byte)
  /-- `$B4` LDY zp,X (R163) -/
  | ldyZpX (zp : Byte)
  /-- `$B5` LDA zp,X (R161) -/
  | ldaZpX (zp : Byte)
  /-- `$B6` LDX zp,Y (R162) -/
  | ldxZpY (zp : Byte)
  /-- `$B7` LDA [zp],Y (R161) -/
  | ldaZpIndLongY (zp : Byte)
  /-- `$B9` LDA abs,Y (R161) -/
  | ldaAbsY (abs : Word)
  /-- `$BC` LDY abs,X (R163) -/
  | ldyAbsX (abs : Word)
  /-- `$BD` LDA abs,X (R161) -/
  | ldaAbsX (abs : Word)
  /-- `$BE` LDX abs,Y (R162) -/
  | ldxAbsY (abs : Word)
  /-- `$BF` LDA long,X (R161) -/
  | ldaLongX (long : Addr)
  /-- `$C0` CPY # (R186) -/
  | cpyImm (v : Imm)
  /-- `$C1` CMP (zp,X) (R184) -/
  | cmpZpXInd (zp : Byte)
  /-- `$C2` REP #$xx (R304) -/
  | rep (imm8 : Byte)
  /-- `$C3` CMP ds,S (R184) -/
  | cmpSr (ds : Byte)
  /-- `$C4` CPY zp (R186) -/
  | cpyZp (zp : Byte)
  /-- `$C5` CMP zp (R184) -/
  | cmpZp (zp : Byte)
  /-- `$C6` DEC zp (R202) -/
  | decZp (zp : Byte)
  /-- `$C7` CMP [zp] (R184) -/
  | cmpZpIndLong (zp : Byte)
  /-- `$C9` CMP # (R184) -/
  | cmpImm (v : Imm)
  /-- `$CC` CPY abs (R186) -/
  | cpyAbs (abs : Word)
  /-- `$CD` CMP abs (R184) -/
  | cmpAbs (abs : Word)
  /-- `$CE` DEC abs (R202) -/
  | decAbs (abs : Word)
  /-- `$CF` CMP long (R184) -/
  | cmpLong (long : Addr)
  /-- `$D0` BNE rel (R225) -/
  | bne (rel : Byte)
  /-- `$D1` CMP (zp),Y (R184) -/
  | cmpZpIndY (zp : Byte)
  /-- `$D2` CMP (zp) (R184) -/
  | cmpZpInd (zp : Byte)
  /-- `$D3` CMP (ds,S),Y (R184) -/
  | cmpSrIndY (ds : Byte)
  /-- `$D4` PEA (zp) (R252) -/
  | peaZpInd (zp : Byte)
  /-- `$D5` CMP zp,X (R184) -/
  | cmpZpX (zp : Byte)
  /-- `$D6` DEC zp,X (R202) -/
  | decZpX (zp : Byte)
  /-- `$D7` CMP [zp],Y (R184) -/
  | cmpZpIndLongY (zp : Byte)
  /-- `$D9` CMP abs,Y (R184) -/
  | cmpAbsY (abs : Word)
  /-- `$DC` JMP [abs] (R236) -/
  | jmpAbsIndLong (abs : Word)
  /-- `$DD` CMP abs,X (R184) -/
  | cmpAbsX (abs : Word)
  /-- `$DE` DEC abs,X (R202) -/
  | decAbsX (abs : Word)
  /-- `$DF` CMP long,X (R184) -/
  | cmpLongX (long : Addr)
  /-- `$E0` CPX # (R185) -/
  | cpxImm (v : Imm)
  /-- `$E1` SBC (zp,X) (R189) -/
  | sbcZpXInd (zp : Byte)
  /-- `$E2` SEP #$xx (R308) -/
  | sep (imm8 : Byte)
  /-- `$E3` SBC ds,S (R189) -/
  | sbcSr (ds : Byte)
  /-- `$E4` CPX zp (R185) -/
  | cpxZp (zp : Byte)
  /-- `$E5` SBC zp (R189) -/
  | sbcZp (zp : Byte)
  /-- `$E6` INC zp (R205) -/
  | incZp (zp : Byte)
  /-- `$E7` SBC [zp] (R189) -/
  | sbcZpIndLong (zp : Byte)
  /-- `$E9` SBC # (R189) -/
  | sbcImm (v : Imm)
  /-- `$EC` CPX abs (R185) -/
  | cpxAbs (abs : Word)
  /-- `$ED` SBC abs (R189) -/
  | sbcAbs (abs : Word)
  /-- `$EE` INC abs (R205) -/
  | incAbs (abs : Word)
  /-- `$EF` SBC long (R189) -/
  | sbcLong (long : Addr)
  /-- `$F0` BEQ rel (R223) -/
  | beq (rel : Byte)
  /-- `$F1` SBC (zp),Y (R189) -/
  | sbcZpIndY (zp : Byte)
  /-- `$F2` SBC (zp) (R189) -/
  | sbcZpInd (zp : Byte)
  /-- `$F3` SBC (ds,S),Y (R189) -/
  | sbcSrIndY (ds : Byte)
  /-- `$F4` PEA #$xxxx (R251) -/
  | peaImm (imm16 : Word)
  /-- `$F5` SBC zp,X (R189) -/
  | sbcZpX (zp : Byte)
  /-- `$F6` INC zp,X (R205) -/
  | incZpX (zp : Byte)
  /-- `$F7` SBC [zp],Y (R189) -/
  | sbcZpIndLongY (zp : Byte)
  /-- `$F9` SBC abs,Y (R189) -/
  | sbcAbsY (abs : Word)
  /-- `$FC` JSR (abs,X) (R232) -/
  | jsrAbsXInd (abs : Word)
  /-- `$FD` SBC abs,X (R189) -/
  | sbcAbsX (abs : Word)
  /-- `$FE` INC abs,X (R205) -/
  | incAbsX (abs : Word)
  /-- `$FF` SBC long,X (R189) -/
  | sbcLongX (long : Addr)
  /-- `$08` PHP implied (R258) -/
  | php
  /-- `$0A` ASL acc (R201) -/
  | aslAcc
  /-- `$0B` PHD implied (R256) -/
  | phd
  /-- `$18` CLC implied (R300) -/
  | clc
  /-- `$1A` INC acc (R205) -/
  | incAcc
  /-- `$1B` TCS implied (R284) -/
  | tcs
  /-- `$28` PLP implied (R264) -/
  | plp
  /-- `$2A` ROL acc (R209) -/
  | rolAcc
  /-- `$2B` PLD implied (R263) -/
  | pld
  /-- `$38` SEC implied (R305) -/
  | sec
  /-- `$3A` DEC acc (R202) -/
  | decAcc
  /-- `$3B` TSC implied (R286) -/
  | tsc
  /-- `$40` RTI implied (R333) -/
  | rti
  /-- `$42` WDM implied (R336) -/
  | wdm
  /-- `$48` PHA implied (R254) -/
  | pha
  /-- `$4A` LSR acc (R208) -/
  | lsrAcc
  /-- `$4B` PHK implied (R257) -/
  | phk
  /-- `$58` CLI implied (R302) -/
  | cli
  /-- `$5A` PHY implied (R260) -/
  | phy
  /-- `$5B` TCD implied (R283) -/
  | tcd
  /-- `$60` RTS implied (R235) -/
  | rts
  /-- `$68` PLA implied (R261) -/
  | pla
  /-- `$6A` ROR acc (R210) -/
  | rorAcc
  /-- `$6B` RTL implied (R234) -/
  | rtl
  /-- `$78` SEI implied (R307) -/
  | sei
  /-- `$7A` PLY implied (R266) -/
  | ply
  /-- `$7B` TDC implied (R285) -/
  | tdc
  /-- `$88` DEY implied (R204) -/
  | dey
  /-- `$8A` TXA implied (R288) -/
  | txa
  /-- `$8B` PHB implied (R255) -/
  | phb
  /-- `$98` TYA implied (R291) -/
  | tya
  /-- `$9A` TXS implied (R289) -/
  | txs
  /-- `$9B` TXY implied (R290) -/
  | txy
  /-- `$A8` TAY implied (R282) -/
  | tay
  /-- `$AA` TAX implied (R281) -/
  | tax
  /-- `$AB` PLB implied (R262) -/
  | plb
  /-- `$B8` CLV implied (R303) -/
  | clv
  /-- `$BA` TSX implied (R287) -/
  | tsx
  /-- `$BB` TYX implied (R292) -/
  | tyx
  /-- `$C8` INY implied (R207) -/
  | iny
  /-- `$CA` DEX implied (R203) -/
  | dex
  /-- `$CB` WAI implied (R335) -/
  | wai
  /-- `$D8` CLD implied (R301) -/
  | cld
  /-- `$DA` PHX implied (R259) -/
  | phx
  /-- `$DB` STP implied (R334) -/
  | stp
  /-- `$E8` INX implied (R206) -/
  | inx
  /-- `$EA` NOP implied (R332) -/
  | nop
  /-- `$EB` XBA implied (R293) -/
  | xba
  /-- `$F8` SED implied (R306) -/
  | sed
  /-- `$FA` PLX implied (R265) -/
  | plx
  /-- `$FB` XCE implied (R309) -/
  | xce
deriving DecidableEq, Repr

/-- The mnemonic of the row an instruction stands for. -/
def Instr.mnemonic : Instr → Mnemonic
  | .brk _ => .brk
  | .oraZpXInd _ => .ora
  | .cop _ => .cop
  | .oraSr _ => .ora
  | .tsbZp _ => .tsb
  | .oraZp _ => .ora
  | .aslZp _ => .asl
  | .oraZpIndLong _ => .ora
  | .php => .php
  | .oraImm _ => .ora
  | .aslAcc => .asl
  | .phd => .phd
  | .tsbAbs _ => .tsb
  | .oraAbs _ => .ora
  | .aslAbs _ => .asl
  | .oraLong _ => .ora
  | .bpl _ => .bpl
  | .oraZpIndY _ => .ora
  | .oraZpInd _ => .ora
  | .oraSrIndY _ => .ora
  | .trbZp _ => .trb
  | .oraZpX _ => .ora
  | .aslZpX _ => .asl
  | .oraZpIndLongY _ => .ora
  | .clc => .clc
  | .oraAbsY _ => .ora
  | .incAcc => .inc
  | .tcs => .tcs
  | .trbAbs _ => .trb
  | .oraAbsX _ => .ora
  | .aslAbsX _ => .asl
  | .oraLongX _ => .ora
  | .jsrAbs _ => .jsr
  | .andZpXInd _ => .and
  | .jsrLong _ => .jsr
  | .andSr _ => .and
  | .bitZp _ => .bit
  | .andZp _ => .and
  | .rolZp _ => .rol
  | .andZpIndLong _ => .and
  | .plp => .plp
  | .andImm _ => .and
  | .rolAcc => .rol
  | .pld => .pld
  | .bitAbs _ => .bit
  | .andAbs _ => .and
  | .rolAbs _ => .rol
  | .andLong _ => .and
  | .bmi _ => .bmi
  | .andZpIndY _ => .and
  | .andZpInd _ => .and
  | .andSrIndY _ => .and
  | .bitZpX _ => .bit
  | .andZpX _ => .and
  | .rolZpX _ => .rol
  | .andZpIndLongY _ => .and
  | .sec => .sec
  | .andAbsY _ => .and
  | .decAcc => .dec
  | .tsc => .tsc
  | .bitAbsX _ => .bit
  | .andAbsX _ => .and
  | .rolAbsX _ => .rol
  | .andLongX _ => .and
  | .rti => .rti
  | .eorZpXInd _ => .eor
  | .wdm => .wdm
  | .eorSr _ => .eor
  | .mvp _ _ => .mvp
  | .eorZp _ => .eor
  | .lsrZp _ => .lsr
  | .eorZpIndLong _ => .eor
  | .pha => .pha
  | .eorImm _ => .eor
  | .lsrAcc => .lsr
  | .phk => .phk
  | .jmpAbs _ => .jmp
  | .eorAbs _ => .eor
  | .lsrAbs _ => .lsr
  | .eorLong _ => .eor
  | .bvc _ => .bvc
  | .eorZpIndY _ => .eor
  | .eorZpInd _ => .eor
  | .eorSrIndY _ => .eor
  | .mvn _ _ => .mvn
  | .eorZpX _ => .eor
  | .lsrZpX _ => .lsr
  | .eorZpIndLongY _ => .eor
  | .cli => .cli
  | .eorAbsY _ => .eor
  | .phy => .phy
  | .tcd => .tcd
  | .jmpLong _ => .jmp
  | .eorAbsX _ => .eor
  | .lsrAbsX _ => .lsr
  | .eorLongX _ => .eor
  | .rts => .rts
  | .adcZpXInd _ => .adc
  | .peaRell _ => .pea
  | .adcSr _ => .adc
  | .stzZp _ => .stz
  | .adcZp _ => .adc
  | .rorZp _ => .ror
  | .adcZpIndLong _ => .adc
  | .pla => .pla
  | .adcImm _ => .adc
  | .rorAcc => .ror
  | .rtl => .rtl
  | .jmpAbsInd _ => .jmp
  | .adcAbs _ => .adc
  | .rorAbs _ => .ror
  | .adcLong _ => .adc
  | .bvs _ => .bvs
  | .adcZpIndY _ => .adc
  | .adcZpInd _ => .adc
  | .adcSrIndY _ => .adc
  | .stzZpX _ => .stz
  | .adcZpX _ => .adc
  | .rorZpX _ => .ror
  | .adcZpIndLongY _ => .adc
  | .sei => .sei
  | .adcAbsY _ => .adc
  | .ply => .ply
  | .tdc => .tdc
  | .jmpAbsXInd _ => .jmp
  | .adcAbsX _ => .adc
  | .rorAbsX _ => .ror
  | .adcLongX _ => .adc
  | .braRel _ => .bra
  | .staZpXInd _ => .sta
  | .braRell _ => .bra
  | .staSr _ => .sta
  | .styZp _ => .sty
  | .staZp _ => .sta
  | .stxZp _ => .stx
  | .staZpIndLong _ => .sta
  | .dey => .dey
  | .bitImm _ => .bit
  | .txa => .txa
  | .phb => .phb
  | .styAbs _ => .sty
  | .staAbs _ => .sta
  | .stxAbs _ => .stx
  | .staLong _ => .sta
  | .bcc _ => .bcc
  | .staZpIndY _ => .sta
  | .staZpInd _ => .sta
  | .staSrIndY _ => .sta
  | .styZpX _ => .sty
  | .staZpX _ => .sta
  | .stxZpY _ => .stx
  | .staZpIndLongY _ => .sta
  | .tya => .tya
  | .staAbsY _ => .sta
  | .txs => .txs
  | .txy => .txy
  | .stzAbs _ => .stz
  | .staAbsX _ => .sta
  | .stzAbsX _ => .stz
  | .staLongX _ => .sta
  | .ldyImm _ => .ldy
  | .ldaZpXInd _ => .lda
  | .ldxImm _ => .ldx
  | .ldaSr _ => .lda
  | .ldyZp _ => .ldy
  | .ldaZp _ => .lda
  | .ldxZp _ => .ldx
  | .ldaZpIndLong _ => .lda
  | .tay => .tay
  | .ldaImm _ => .lda
  | .tax => .tax
  | .plb => .plb
  | .ldyAbs _ => .ldy
  | .ldaAbs _ => .lda
  | .ldxAbs _ => .ldx
  | .ldaLong _ => .lda
  | .bcs _ => .bcs
  | .ldaZpIndY _ => .lda
  | .ldaZpInd _ => .lda
  | .ldaSrIndY _ => .lda
  | .ldyZpX _ => .ldy
  | .ldaZpX _ => .lda
  | .ldxZpY _ => .ldx
  | .ldaZpIndLongY _ => .lda
  | .clv => .clv
  | .ldaAbsY _ => .lda
  | .tsx => .tsx
  | .tyx => .tyx
  | .ldyAbsX _ => .ldy
  | .ldaAbsX _ => .lda
  | .ldxAbsY _ => .ldx
  | .ldaLongX _ => .lda
  | .cpyImm _ => .cpy
  | .cmpZpXInd _ => .cmp
  | .rep _ => .rep
  | .cmpSr _ => .cmp
  | .cpyZp _ => .cpy
  | .cmpZp _ => .cmp
  | .decZp _ => .dec
  | .cmpZpIndLong _ => .cmp
  | .iny => .iny
  | .cmpImm _ => .cmp
  | .dex => .dex
  | .wai => .wai
  | .cpyAbs _ => .cpy
  | .cmpAbs _ => .cmp
  | .decAbs _ => .dec
  | .cmpLong _ => .cmp
  | .bne _ => .bne
  | .cmpZpIndY _ => .cmp
  | .cmpZpInd _ => .cmp
  | .cmpSrIndY _ => .cmp
  | .peaZpInd _ => .pea
  | .cmpZpX _ => .cmp
  | .decZpX _ => .dec
  | .cmpZpIndLongY _ => .cmp
  | .cld => .cld
  | .cmpAbsY _ => .cmp
  | .phx => .phx
  | .stp => .stp
  | .jmpAbsIndLong _ => .jmp
  | .cmpAbsX _ => .cmp
  | .decAbsX _ => .dec
  | .cmpLongX _ => .cmp
  | .cpxImm _ => .cpx
  | .sbcZpXInd _ => .sbc
  | .sep _ => .sep
  | .sbcSr _ => .sbc
  | .cpxZp _ => .cpx
  | .sbcZp _ => .sbc
  | .incZp _ => .inc
  | .sbcZpIndLong _ => .sbc
  | .inx => .inx
  | .sbcImm _ => .sbc
  | .nop => .nop
  | .xba => .xba
  | .cpxAbs _ => .cpx
  | .sbcAbs _ => .sbc
  | .incAbs _ => .inc
  | .sbcLong _ => .sbc
  | .beq _ => .beq
  | .sbcZpIndY _ => .sbc
  | .sbcZpInd _ => .sbc
  | .sbcSrIndY _ => .sbc
  | .peaImm _ => .pea
  | .sbcZpX _ => .sbc
  | .incZpX _ => .inc
  | .sbcZpIndLongY _ => .sbc
  | .sed => .sed
  | .sbcAbsY _ => .sbc
  | .plx => .plx
  | .xce => .xce
  | .jsrAbsXInd _ => .jsr
  | .sbcAbsX _ => .sbc
  | .incAbsX _ => .inc
  | .sbcLongX _ => .sbc

/-- The opcode byte of the row (30_encoding.md R95). -/
def Instr.opcode : Instr → Byte
  | .brk _ => 0x00
  | .oraZpXInd _ => 0x01
  | .cop _ => 0x02
  | .oraSr _ => 0x03
  | .tsbZp _ => 0x04
  | .oraZp _ => 0x05
  | .aslZp _ => 0x06
  | .oraZpIndLong _ => 0x07
  | .php => 0x08
  | .oraImm _ => 0x09
  | .aslAcc => 0x0A
  | .phd => 0x0B
  | .tsbAbs _ => 0x0C
  | .oraAbs _ => 0x0D
  | .aslAbs _ => 0x0E
  | .oraLong _ => 0x0F
  | .bpl _ => 0x10
  | .oraZpIndY _ => 0x11
  | .oraZpInd _ => 0x12
  | .oraSrIndY _ => 0x13
  | .trbZp _ => 0x14
  | .oraZpX _ => 0x15
  | .aslZpX _ => 0x16
  | .oraZpIndLongY _ => 0x17
  | .clc => 0x18
  | .oraAbsY _ => 0x19
  | .incAcc => 0x1A
  | .tcs => 0x1B
  | .trbAbs _ => 0x1C
  | .oraAbsX _ => 0x1D
  | .aslAbsX _ => 0x1E
  | .oraLongX _ => 0x1F
  | .jsrAbs _ => 0x20
  | .andZpXInd _ => 0x21
  | .jsrLong _ => 0x22
  | .andSr _ => 0x23
  | .bitZp _ => 0x24
  | .andZp _ => 0x25
  | .rolZp _ => 0x26
  | .andZpIndLong _ => 0x27
  | .plp => 0x28
  | .andImm _ => 0x29
  | .rolAcc => 0x2A
  | .pld => 0x2B
  | .bitAbs _ => 0x2C
  | .andAbs _ => 0x2D
  | .rolAbs _ => 0x2E
  | .andLong _ => 0x2F
  | .bmi _ => 0x30
  | .andZpIndY _ => 0x31
  | .andZpInd _ => 0x32
  | .andSrIndY _ => 0x33
  | .bitZpX _ => 0x34
  | .andZpX _ => 0x35
  | .rolZpX _ => 0x36
  | .andZpIndLongY _ => 0x37
  | .sec => 0x38
  | .andAbsY _ => 0x39
  | .decAcc => 0x3A
  | .tsc => 0x3B
  | .bitAbsX _ => 0x3C
  | .andAbsX _ => 0x3D
  | .rolAbsX _ => 0x3E
  | .andLongX _ => 0x3F
  | .rti => 0x40
  | .eorZpXInd _ => 0x41
  | .wdm => 0x42
  | .eorSr _ => 0x43
  | .mvp _ _ => 0x44
  | .eorZp _ => 0x45
  | .lsrZp _ => 0x46
  | .eorZpIndLong _ => 0x47
  | .pha => 0x48
  | .eorImm _ => 0x49
  | .lsrAcc => 0x4A
  | .phk => 0x4B
  | .jmpAbs _ => 0x4C
  | .eorAbs _ => 0x4D
  | .lsrAbs _ => 0x4E
  | .eorLong _ => 0x4F
  | .bvc _ => 0x50
  | .eorZpIndY _ => 0x51
  | .eorZpInd _ => 0x52
  | .eorSrIndY _ => 0x53
  | .mvn _ _ => 0x54
  | .eorZpX _ => 0x55
  | .lsrZpX _ => 0x56
  | .eorZpIndLongY _ => 0x57
  | .cli => 0x58
  | .eorAbsY _ => 0x59
  | .phy => 0x5A
  | .tcd => 0x5B
  | .jmpLong _ => 0x5C
  | .eorAbsX _ => 0x5D
  | .lsrAbsX _ => 0x5E
  | .eorLongX _ => 0x5F
  | .rts => 0x60
  | .adcZpXInd _ => 0x61
  | .peaRell _ => 0x62
  | .adcSr _ => 0x63
  | .stzZp _ => 0x64
  | .adcZp _ => 0x65
  | .rorZp _ => 0x66
  | .adcZpIndLong _ => 0x67
  | .pla => 0x68
  | .adcImm _ => 0x69
  | .rorAcc => 0x6A
  | .rtl => 0x6B
  | .jmpAbsInd _ => 0x6C
  | .adcAbs _ => 0x6D
  | .rorAbs _ => 0x6E
  | .adcLong _ => 0x6F
  | .bvs _ => 0x70
  | .adcZpIndY _ => 0x71
  | .adcZpInd _ => 0x72
  | .adcSrIndY _ => 0x73
  | .stzZpX _ => 0x74
  | .adcZpX _ => 0x75
  | .rorZpX _ => 0x76
  | .adcZpIndLongY _ => 0x77
  | .sei => 0x78
  | .adcAbsY _ => 0x79
  | .ply => 0x7A
  | .tdc => 0x7B
  | .jmpAbsXInd _ => 0x7C
  | .adcAbsX _ => 0x7D
  | .rorAbsX _ => 0x7E
  | .adcLongX _ => 0x7F
  | .braRel _ => 0x80
  | .staZpXInd _ => 0x81
  | .braRell _ => 0x82
  | .staSr _ => 0x83
  | .styZp _ => 0x84
  | .staZp _ => 0x85
  | .stxZp _ => 0x86
  | .staZpIndLong _ => 0x87
  | .dey => 0x88
  | .bitImm _ => 0x89
  | .txa => 0x8A
  | .phb => 0x8B
  | .styAbs _ => 0x8C
  | .staAbs _ => 0x8D
  | .stxAbs _ => 0x8E
  | .staLong _ => 0x8F
  | .bcc _ => 0x90
  | .staZpIndY _ => 0x91
  | .staZpInd _ => 0x92
  | .staSrIndY _ => 0x93
  | .styZpX _ => 0x94
  | .staZpX _ => 0x95
  | .stxZpY _ => 0x96
  | .staZpIndLongY _ => 0x97
  | .tya => 0x98
  | .staAbsY _ => 0x99
  | .txs => 0x9A
  | .txy => 0x9B
  | .stzAbs _ => 0x9C
  | .staAbsX _ => 0x9D
  | .stzAbsX _ => 0x9E
  | .staLongX _ => 0x9F
  | .ldyImm _ => 0xA0
  | .ldaZpXInd _ => 0xA1
  | .ldxImm _ => 0xA2
  | .ldaSr _ => 0xA3
  | .ldyZp _ => 0xA4
  | .ldaZp _ => 0xA5
  | .ldxZp _ => 0xA6
  | .ldaZpIndLong _ => 0xA7
  | .tay => 0xA8
  | .ldaImm _ => 0xA9
  | .tax => 0xAA
  | .plb => 0xAB
  | .ldyAbs _ => 0xAC
  | .ldaAbs _ => 0xAD
  | .ldxAbs _ => 0xAE
  | .ldaLong _ => 0xAF
  | .bcs _ => 0xB0
  | .ldaZpIndY _ => 0xB1
  | .ldaZpInd _ => 0xB2
  | .ldaSrIndY _ => 0xB3
  | .ldyZpX _ => 0xB4
  | .ldaZpX _ => 0xB5
  | .ldxZpY _ => 0xB6
  | .ldaZpIndLongY _ => 0xB7
  | .clv => 0xB8
  | .ldaAbsY _ => 0xB9
  | .tsx => 0xBA
  | .tyx => 0xBB
  | .ldyAbsX _ => 0xBC
  | .ldaAbsX _ => 0xBD
  | .ldxAbsY _ => 0xBE
  | .ldaLongX _ => 0xBF
  | .cpyImm _ => 0xC0
  | .cmpZpXInd _ => 0xC1
  | .rep _ => 0xC2
  | .cmpSr _ => 0xC3
  | .cpyZp _ => 0xC4
  | .cmpZp _ => 0xC5
  | .decZp _ => 0xC6
  | .cmpZpIndLong _ => 0xC7
  | .iny => 0xC8
  | .cmpImm _ => 0xC9
  | .dex => 0xCA
  | .wai => 0xCB
  | .cpyAbs _ => 0xCC
  | .cmpAbs _ => 0xCD
  | .decAbs _ => 0xCE
  | .cmpLong _ => 0xCF
  | .bne _ => 0xD0
  | .cmpZpIndY _ => 0xD1
  | .cmpZpInd _ => 0xD2
  | .cmpSrIndY _ => 0xD3
  | .peaZpInd _ => 0xD4
  | .cmpZpX _ => 0xD5
  | .decZpX _ => 0xD6
  | .cmpZpIndLongY _ => 0xD7
  | .cld => 0xD8
  | .cmpAbsY _ => 0xD9
  | .phx => 0xDA
  | .stp => 0xDB
  | .jmpAbsIndLong _ => 0xDC
  | .cmpAbsX _ => 0xDD
  | .decAbsX _ => 0xDE
  | .cmpLongX _ => 0xDF
  | .cpxImm _ => 0xE0
  | .sbcZpXInd _ => 0xE1
  | .sep _ => 0xE2
  | .sbcSr _ => 0xE3
  | .cpxZp _ => 0xE4
  | .sbcZp _ => 0xE5
  | .incZp _ => 0xE6
  | .sbcZpIndLong _ => 0xE7
  | .inx => 0xE8
  | .sbcImm _ => 0xE9
  | .nop => 0xEA
  | .xba => 0xEB
  | .cpxAbs _ => 0xEC
  | .sbcAbs _ => 0xED
  | .incAbs _ => 0xEE
  | .sbcLong _ => 0xEF
  | .beq _ => 0xF0
  | .sbcZpIndY _ => 0xF1
  | .sbcZpInd _ => 0xF2
  | .sbcSrIndY _ => 0xF3
  | .peaImm _ => 0xF4
  | .sbcZpX _ => 0xF5
  | .incZpX _ => 0xF6
  | .sbcZpIndLongY _ => 0xF7
  | .sed => 0xF8
  | .sbcAbsY _ => 0xF9
  | .plx => 0xFA
  | .xce => 0xFB
  | .jsrAbsXInd _ => 0xFC
  | .sbcAbsX _ => 0xFD
  | .incAbsX _ => 0xFE
  | .sbcLongX _ => 0xFF

/-- The operand form of the row, with the operand bytes. -/
def Instr.form : Instr → Form
  | .brk sig => .sig sig
  | .oraZpXInd zp => .data (.mem (.zpXInd zp))
  | .cop imm8 => .imm8 imm8
  | .oraSr ds => .data (.mem (.sr ds))
  | .tsbZp zp => .data (.mem (.zp zp))
  | .oraZp zp => .data (.mem (.zp zp))
  | .aslZp zp => .data (.mem (.zp zp))
  | .oraZpIndLong zp => .data (.mem (.zpIndLong zp))
  | .php => .implied
  | .oraImm v => .data (.imm v)
  | .aslAcc => .acc
  | .phd => .implied
  | .tsbAbs abs => .data (.mem (.abs abs))
  | .oraAbs abs => .data (.mem (.abs abs))
  | .aslAbs abs => .data (.mem (.abs abs))
  | .oraLong long => .data (.mem (.long long))
  | .bpl rel => .rel rel
  | .oraZpIndY zp => .data (.mem (.zpIndY zp))
  | .oraZpInd zp => .data (.mem (.zpInd zp))
  | .oraSrIndY ds => .data (.mem (.srIndY ds))
  | .trbZp zp => .data (.mem (.zp zp))
  | .oraZpX zp => .data (.mem (.zpX zp))
  | .aslZpX zp => .data (.mem (.zpX zp))
  | .oraZpIndLongY zp => .data (.mem (.zpIndLongY zp))
  | .clc => .implied
  | .oraAbsY abs => .data (.mem (.absY abs))
  | .incAcc => .acc
  | .tcs => .implied
  | .trbAbs abs => .data (.mem (.abs abs))
  | .oraAbsX abs => .data (.mem (.absX abs))
  | .aslAbsX abs => .data (.mem (.absX abs))
  | .oraLongX long => .data (.mem (.longX long))
  | .jsrAbs abs => .data (.mem (.abs abs))
  | .andZpXInd zp => .data (.mem (.zpXInd zp))
  | .jsrLong long => .data (.mem (.long long))
  | .andSr ds => .data (.mem (.sr ds))
  | .bitZp zp => .data (.mem (.zp zp))
  | .andZp zp => .data (.mem (.zp zp))
  | .rolZp zp => .data (.mem (.zp zp))
  | .andZpIndLong zp => .data (.mem (.zpIndLong zp))
  | .plp => .implied
  | .andImm v => .data (.imm v)
  | .rolAcc => .acc
  | .pld => .implied
  | .bitAbs abs => .data (.mem (.abs abs))
  | .andAbs abs => .data (.mem (.abs abs))
  | .rolAbs abs => .data (.mem (.abs abs))
  | .andLong long => .data (.mem (.long long))
  | .bmi rel => .rel rel
  | .andZpIndY zp => .data (.mem (.zpIndY zp))
  | .andZpInd zp => .data (.mem (.zpInd zp))
  | .andSrIndY ds => .data (.mem (.srIndY ds))
  | .bitZpX zp => .data (.mem (.zpX zp))
  | .andZpX zp => .data (.mem (.zpX zp))
  | .rolZpX zp => .data (.mem (.zpX zp))
  | .andZpIndLongY zp => .data (.mem (.zpIndLongY zp))
  | .sec => .implied
  | .andAbsY abs => .data (.mem (.absY abs))
  | .decAcc => .acc
  | .tsc => .implied
  | .bitAbsX abs => .data (.mem (.absX abs))
  | .andAbsX abs => .data (.mem (.absX abs))
  | .rolAbsX abs => .data (.mem (.absX abs))
  | .andLongX long => .data (.mem (.longX long))
  | .rti => .implied
  | .eorZpXInd zp => .data (.mem (.zpXInd zp))
  | .wdm => .implied
  | .eorSr ds => .data (.mem (.sr ds))
  | .mvp dst src => .blk dst src
  | .eorZp zp => .data (.mem (.zp zp))
  | .lsrZp zp => .data (.mem (.zp zp))
  | .eorZpIndLong zp => .data (.mem (.zpIndLong zp))
  | .pha => .implied
  | .eorImm v => .data (.imm v)
  | .lsrAcc => .acc
  | .phk => .implied
  | .jmpAbs abs => .data (.mem (.abs abs))
  | .eorAbs abs => .data (.mem (.abs abs))
  | .lsrAbs abs => .data (.mem (.abs abs))
  | .eorLong long => .data (.mem (.long long))
  | .bvc rel => .rel rel
  | .eorZpIndY zp => .data (.mem (.zpIndY zp))
  | .eorZpInd zp => .data (.mem (.zpInd zp))
  | .eorSrIndY ds => .data (.mem (.srIndY ds))
  | .mvn dst src => .blk dst src
  | .eorZpX zp => .data (.mem (.zpX zp))
  | .lsrZpX zp => .data (.mem (.zpX zp))
  | .eorZpIndLongY zp => .data (.mem (.zpIndLongY zp))
  | .cli => .implied
  | .eorAbsY abs => .data (.mem (.absY abs))
  | .phy => .implied
  | .tcd => .implied
  | .jmpLong long => .data (.mem (.long long))
  | .eorAbsX abs => .data (.mem (.absX abs))
  | .lsrAbsX abs => .data (.mem (.absX abs))
  | .eorLongX long => .data (.mem (.longX long))
  | .rts => .implied
  | .adcZpXInd zp => .data (.mem (.zpXInd zp))
  | .peaRell rell => .rell rell
  | .adcSr ds => .data (.mem (.sr ds))
  | .stzZp zp => .data (.mem (.zp zp))
  | .adcZp zp => .data (.mem (.zp zp))
  | .rorZp zp => .data (.mem (.zp zp))
  | .adcZpIndLong zp => .data (.mem (.zpIndLong zp))
  | .pla => .implied
  | .adcImm v => .data (.imm v)
  | .rorAcc => .acc
  | .rtl => .implied
  | .jmpAbsInd abs => .absInd abs
  | .adcAbs abs => .data (.mem (.abs abs))
  | .rorAbs abs => .data (.mem (.abs abs))
  | .adcLong long => .data (.mem (.long long))
  | .bvs rel => .rel rel
  | .adcZpIndY zp => .data (.mem (.zpIndY zp))
  | .adcZpInd zp => .data (.mem (.zpInd zp))
  | .adcSrIndY ds => .data (.mem (.srIndY ds))
  | .stzZpX zp => .data (.mem (.zpX zp))
  | .adcZpX zp => .data (.mem (.zpX zp))
  | .rorZpX zp => .data (.mem (.zpX zp))
  | .adcZpIndLongY zp => .data (.mem (.zpIndLongY zp))
  | .sei => .implied
  | .adcAbsY abs => .data (.mem (.absY abs))
  | .ply => .implied
  | .tdc => .implied
  | .jmpAbsXInd abs => .absXInd abs
  | .adcAbsX abs => .data (.mem (.absX abs))
  | .rorAbsX abs => .data (.mem (.absX abs))
  | .adcLongX long => .data (.mem (.longX long))
  | .braRel rel => .rel rel
  | .staZpXInd zp => .data (.mem (.zpXInd zp))
  | .braRell rell => .rell rell
  | .staSr ds => .data (.mem (.sr ds))
  | .styZp zp => .data (.mem (.zp zp))
  | .staZp zp => .data (.mem (.zp zp))
  | .stxZp zp => .data (.mem (.zp zp))
  | .staZpIndLong zp => .data (.mem (.zpIndLong zp))
  | .dey => .implied
  | .bitImm v => .data (.imm v)
  | .txa => .implied
  | .phb => .implied
  | .styAbs abs => .data (.mem (.abs abs))
  | .staAbs abs => .data (.mem (.abs abs))
  | .stxAbs abs => .data (.mem (.abs abs))
  | .staLong long => .data (.mem (.long long))
  | .bcc rel => .rel rel
  | .staZpIndY zp => .data (.mem (.zpIndY zp))
  | .staZpInd zp => .data (.mem (.zpInd zp))
  | .staSrIndY ds => .data (.mem (.srIndY ds))
  | .styZpX zp => .data (.mem (.zpX zp))
  | .staZpX zp => .data (.mem (.zpX zp))
  | .stxZpY zp => .data (.mem (.zpY zp))
  | .staZpIndLongY zp => .data (.mem (.zpIndLongY zp))
  | .tya => .implied
  | .staAbsY abs => .data (.mem (.absY abs))
  | .txs => .implied
  | .txy => .implied
  | .stzAbs abs => .data (.mem (.abs abs))
  | .staAbsX abs => .data (.mem (.absX abs))
  | .stzAbsX abs => .data (.mem (.absX abs))
  | .staLongX long => .data (.mem (.longX long))
  | .ldyImm v => .data (.imm v)
  | .ldaZpXInd zp => .data (.mem (.zpXInd zp))
  | .ldxImm v => .data (.imm v)
  | .ldaSr ds => .data (.mem (.sr ds))
  | .ldyZp zp => .data (.mem (.zp zp))
  | .ldaZp zp => .data (.mem (.zp zp))
  | .ldxZp zp => .data (.mem (.zp zp))
  | .ldaZpIndLong zp => .data (.mem (.zpIndLong zp))
  | .tay => .implied
  | .ldaImm v => .data (.imm v)
  | .tax => .implied
  | .plb => .implied
  | .ldyAbs abs => .data (.mem (.abs abs))
  | .ldaAbs abs => .data (.mem (.abs abs))
  | .ldxAbs abs => .data (.mem (.abs abs))
  | .ldaLong long => .data (.mem (.long long))
  | .bcs rel => .rel rel
  | .ldaZpIndY zp => .data (.mem (.zpIndY zp))
  | .ldaZpInd zp => .data (.mem (.zpInd zp))
  | .ldaSrIndY ds => .data (.mem (.srIndY ds))
  | .ldyZpX zp => .data (.mem (.zpX zp))
  | .ldaZpX zp => .data (.mem (.zpX zp))
  | .ldxZpY zp => .data (.mem (.zpY zp))
  | .ldaZpIndLongY zp => .data (.mem (.zpIndLongY zp))
  | .clv => .implied
  | .ldaAbsY abs => .data (.mem (.absY abs))
  | .tsx => .implied
  | .tyx => .implied
  | .ldyAbsX abs => .data (.mem (.absX abs))
  | .ldaAbsX abs => .data (.mem (.absX abs))
  | .ldxAbsY abs => .data (.mem (.absY abs))
  | .ldaLongX long => .data (.mem (.longX long))
  | .cpyImm v => .data (.imm v)
  | .cmpZpXInd zp => .data (.mem (.zpXInd zp))
  | .rep imm8 => .imm8 imm8
  | .cmpSr ds => .data (.mem (.sr ds))
  | .cpyZp zp => .data (.mem (.zp zp))
  | .cmpZp zp => .data (.mem (.zp zp))
  | .decZp zp => .data (.mem (.zp zp))
  | .cmpZpIndLong zp => .data (.mem (.zpIndLong zp))
  | .iny => .implied
  | .cmpImm v => .data (.imm v)
  | .dex => .implied
  | .wai => .implied
  | .cpyAbs abs => .data (.mem (.abs abs))
  | .cmpAbs abs => .data (.mem (.abs abs))
  | .decAbs abs => .data (.mem (.abs abs))
  | .cmpLong long => .data (.mem (.long long))
  | .bne rel => .rel rel
  | .cmpZpIndY zp => .data (.mem (.zpIndY zp))
  | .cmpZpInd zp => .data (.mem (.zpInd zp))
  | .cmpSrIndY ds => .data (.mem (.srIndY ds))
  | .peaZpInd zp => .data (.mem (.zpInd zp))
  | .cmpZpX zp => .data (.mem (.zpX zp))
  | .decZpX zp => .data (.mem (.zpX zp))
  | .cmpZpIndLongY zp => .data (.mem (.zpIndLongY zp))
  | .cld => .implied
  | .cmpAbsY abs => .data (.mem (.absY abs))
  | .phx => .implied
  | .stp => .implied
  | .jmpAbsIndLong abs => .absIndLong abs
  | .cmpAbsX abs => .data (.mem (.absX abs))
  | .decAbsX abs => .data (.mem (.absX abs))
  | .cmpLongX long => .data (.mem (.longX long))
  | .cpxImm v => .data (.imm v)
  | .sbcZpXInd zp => .data (.mem (.zpXInd zp))
  | .sep imm8 => .imm8 imm8
  | .sbcSr ds => .data (.mem (.sr ds))
  | .cpxZp zp => .data (.mem (.zp zp))
  | .sbcZp zp => .data (.mem (.zp zp))
  | .incZp zp => .data (.mem (.zp zp))
  | .sbcZpIndLong zp => .data (.mem (.zpIndLong zp))
  | .inx => .implied
  | .sbcImm v => .data (.imm v)
  | .nop => .implied
  | .xba => .implied
  | .cpxAbs abs => .data (.mem (.abs abs))
  | .sbcAbs abs => .data (.mem (.abs abs))
  | .incAbs abs => .data (.mem (.abs abs))
  | .sbcLong long => .data (.mem (.long long))
  | .beq rel => .rel rel
  | .sbcZpIndY zp => .data (.mem (.zpIndY zp))
  | .sbcZpInd zp => .data (.mem (.zpInd zp))
  | .sbcSrIndY ds => .data (.mem (.srIndY ds))
  | .peaImm imm16 => .imm16 imm16
  | .sbcZpX zp => .data (.mem (.zpX zp))
  | .incZpX zp => .data (.mem (.zpX zp))
  | .sbcZpIndLongY zp => .data (.mem (.zpIndLongY zp))
  | .sed => .implied
  | .sbcAbsY abs => .data (.mem (.absY abs))
  | .plx => .implied
  | .xce => .implied
  | .jsrAbsXInd abs => .absXInd abs
  | .sbcAbsX abs => .data (.mem (.absX abs))
  | .incAbsX abs => .data (.mem (.absX abs))
  | .sbcLongX long => .data (.mem (.longX long))

/-- The number of operand bytes of a `#` immediate. -/
def Imm.length : Imm → Nat
  | .b8 _ => 1
  | .b16 _ => 2

/-- The number of operand bytes of a memory mode (30_encoding.md R91: `OP_D8`, `OP_A16`, `OP_L24`). -/
def Mode.length : Mode → Nat
  | .zp _ | .zpX _ | .zpY _ | .zpInd _ | .zpXInd _ | .zpIndY _ | .zpIndLong _ | .zpIndLongY _ | .sr _ | .srIndY _ => 1
  | .abs _ | .absX _ | .absY _ => 2
  | .long _ | .longX _ => 3

/-- The number of operand bytes of a data operand. -/
def DataOperand.length : DataOperand → Nat
  | .imm v => v.length
  | .mem m => m.length

/-- The number of operand bytes of a form (30_encoding.md R91). -/
def Form.length : Form → Nat
  | .implied | .acc => 0
  | .sig _ | .imm8 _ | .rel _ => 1
  | .data o => o.length
  | .imm16 _ | .absInd _ | .absXInd _ | .absIndLong _ | .rell _ | .blk _ _ => 2

/-- The length of an instruction in bytes, the opcode counted (30_encoding.md R90). -/
def Instr.length (i : Instr) : Nat := 1 + i.form.length

end Sys2Proof
end

