-- ==== Sys2Proof/WellFormed.lean ====
section
/-! DEFINITION. Well-formed instructions. Every operand field is exactly as wide as its bytes, so one check
remains: a `#` immediate has the width that the current width predicates give its row (30_encoding.md R92, R97). -/

namespace Sys2Proof

/-- The width an immediate has. -/
def Imm.width : Imm → Width
  | .b8 _ => .w8
  | .b16 _ => .w16

/-- The width of a predicate: 8 bits when it holds, else 16 (00_scope.md R9). -/
def Width.of (is8 : Bool) : Width := if is8 then .w8 else .w16

/-- The rows whose immediate follows `x8` (format `IMM_X`); the other `#` rows follow `m8` (`IMM_M`)
(30_encoding.md R91, R97). -/
def Instr.immFollowsX (i : Instr) : Bool :=
  match i.mnemonic with
  | .cpx | .cpy | .ldx | .ldy => true
  | _ => false

/-- `i` is well-formed where the width predicates are `m8` and `x8`. -/
def Instr.WellFormed (m8 x8 : Bool) (i : Instr) : Bool :=
  match i.form with
  | .data (.imm v) => v.width == Width.of (if i.immFollowsX then x8 else m8)
  | _ => true

end Sys2Proof
end

