-- ==== Sys2Proof/Decode.lean ====
section
/-! DEFINITION. The slices and concatenations of 00_scope.md R7, the decoder of 30_encoding.md R103 (the opcode map
of R95 with the formats of R91), and after it the encoder. -/

namespace Sys2Proof

/-- `lo(v)` = `v[7:0]` (00_scope.md R7). -/
def lo (v : Word) : Byte := v.extractLsb' 0 8

/-- `hi(v)` = `v[15:8]` (00_scope.md R7). -/
def hi (v : Word) : Byte := v.extractLsb' 8 8

/-- `h:l`, the high byte first (00_scope.md R7). -/
def word (h l : Byte) : Word := h ++ l

/-- `bank(v)` = `v[23:16]` (00_scope.md R7). -/
def bank (v : Addr) : Byte := v.extractLsb' 16 8

/-- `v[15:0]` of an address (00_scope.md R7). -/
def offset (v : Addr) : Word := v.extractLsb' 0 16

/-- `b:w`, a bank byte above a word (00_scope.md R7). -/
def addr (b : Byte) (w : Word) : Addr := b ++ w

/-- `sext_16(b)` (00_scope.md R7). -/
def sext16 (b : Byte) : Word := b.signExtend 16

/-- Why the decoder rejects a byte list. -/
inductive DecodeError where
  /-- fewer bytes than the instruction has -/
  | truncated
  /-- the opcode has no row; no byte does this (30_encoding.md R96) -/
  | unassigned
deriving DecidableEq, Repr

/-- One row of the opcode map: its format (30_encoding.md R91) and the instruction it makes of its operand. -/
inductive Row where
  /-- `OP` -/
  | op (i : Instr)
  /-- `OP_SIG8`, `IMM8`, `OP_D8`, `OP_R8` -/
  | op8 (mk : Byte → Instr)
  /-- `IMM16`, `OP_A16`, `OP_R16` -/
  | op16 (mk : Word → Instr)
  /-- `OP_L24` -/
  | op24 (mk : Addr → Instr)
  /-- `IMM_M` -/
  | immM (mk : Imm → Instr)
  /-- `IMM_X` -/
  | immX (mk : Imm → Instr)
  /-- `OP_BLK`: byte 1 the destination bank, byte 2 the source bank -/
  | blk (mk : Byte → Byte → Instr)

/-- Opcodes `$00` to `$0F` (30_encoding.md R95). -/
def opcodeRows0 : List Row :=
  [.op8 .brk, .op8 .oraZpXInd, .op8 .cop, .op8 .oraSr,
   .op8 .tsbZp, .op8 .oraZp, .op8 .aslZp, .op8 .oraZpIndLong,
   .op .php, .immM .oraImm, .op .aslAcc, .op .phd,
   .op16 .tsbAbs, .op16 .oraAbs, .op16 .aslAbs, .op24 .oraLong]

/-- Opcodes `$10` to `$1F` (30_encoding.md R95). -/
def opcodeRows1 : List Row :=
  [.op8 .bpl, .op8 .oraZpIndY, .op8 .oraZpInd, .op8 .oraSrIndY,
   .op8 .trbZp, .op8 .oraZpX, .op8 .aslZpX, .op8 .oraZpIndLongY,
   .op .clc, .op16 .oraAbsY, .op .incAcc, .op .tcs,
   .op16 .trbAbs, .op16 .oraAbsX, .op16 .aslAbsX, .op24 .oraLongX]

/-- Opcodes `$20` to `$2F` (30_encoding.md R95). -/
def opcodeRows2 : List Row :=
  [.op16 .jsrAbs, .op8 .andZpXInd, .op24 .jsrLong, .op8 .andSr,
   .op8 .bitZp, .op8 .andZp, .op8 .rolZp, .op8 .andZpIndLong,
   .op .plp, .immM .andImm, .op .rolAcc, .op .pld,
   .op16 .bitAbs, .op16 .andAbs, .op16 .rolAbs, .op24 .andLong]

/-- Opcodes `$30` to `$3F` (30_encoding.md R95). -/
def opcodeRows3 : List Row :=
  [.op8 .bmi, .op8 .andZpIndY, .op8 .andZpInd, .op8 .andSrIndY,
   .op8 .bitZpX, .op8 .andZpX, .op8 .rolZpX, .op8 .andZpIndLongY,
   .op .sec, .op16 .andAbsY, .op .decAcc, .op .tsc,
   .op16 .bitAbsX, .op16 .andAbsX, .op16 .rolAbsX, .op24 .andLongX]

/-- Opcodes `$40` to `$4F` (30_encoding.md R95). -/
def opcodeRows4 : List Row :=
  [.op .rti, .op8 .eorZpXInd, .op .wdm, .op8 .eorSr,
   .blk .mvp, .op8 .eorZp, .op8 .lsrZp, .op8 .eorZpIndLong,
   .op .pha, .immM .eorImm, .op .lsrAcc, .op .phk,
   .op16 .jmpAbs, .op16 .eorAbs, .op16 .lsrAbs, .op24 .eorLong]

/-- Opcodes `$50` to `$5F` (30_encoding.md R95). -/
def opcodeRows5 : List Row :=
  [.op8 .bvc, .op8 .eorZpIndY, .op8 .eorZpInd, .op8 .eorSrIndY,
   .blk .mvn, .op8 .eorZpX, .op8 .lsrZpX, .op8 .eorZpIndLongY,
   .op .cli, .op16 .eorAbsY, .op .phy, .op .tcd,
   .op24 .jmpLong, .op16 .eorAbsX, .op16 .lsrAbsX, .op24 .eorLongX]

/-- Opcodes `$60` to `$6F` (30_encoding.md R95). -/
def opcodeRows6 : List Row :=
  [.op .rts, .op8 .adcZpXInd, .op16 .peaRell, .op8 .adcSr,
   .op8 .stzZp, .op8 .adcZp, .op8 .rorZp, .op8 .adcZpIndLong,
   .op .pla, .immM .adcImm, .op .rorAcc, .op .rtl,
   .op16 .jmpAbsInd, .op16 .adcAbs, .op16 .rorAbs, .op24 .adcLong]

/-- Opcodes `$70` to `$7F` (30_encoding.md R95). -/
def opcodeRows7 : List Row :=
  [.op8 .bvs, .op8 .adcZpIndY, .op8 .adcZpInd, .op8 .adcSrIndY,
   .op8 .stzZpX, .op8 .adcZpX, .op8 .rorZpX, .op8 .adcZpIndLongY,
   .op .sei, .op16 .adcAbsY, .op .ply, .op .tdc,
   .op16 .jmpAbsXInd, .op16 .adcAbsX, .op16 .rorAbsX, .op24 .adcLongX]

/-- Opcodes `$80` to `$8F` (30_encoding.md R95). -/
def opcodeRows8 : List Row :=
  [.op8 .braRel, .op8 .staZpXInd, .op16 .braRell, .op8 .staSr,
   .op8 .styZp, .op8 .staZp, .op8 .stxZp, .op8 .staZpIndLong,
   .op .dey, .immM .bitImm, .op .txa, .op .phb,
   .op16 .styAbs, .op16 .staAbs, .op16 .stxAbs, .op24 .staLong]

/-- Opcodes `$90` to `$9F` (30_encoding.md R95). -/
def opcodeRows9 : List Row :=
  [.op8 .bcc, .op8 .staZpIndY, .op8 .staZpInd, .op8 .staSrIndY,
   .op8 .styZpX, .op8 .staZpX, .op8 .stxZpY, .op8 .staZpIndLongY,
   .op .tya, .op16 .staAbsY, .op .txs, .op .txy,
   .op16 .stzAbs, .op16 .staAbsX, .op16 .stzAbsX, .op24 .staLongX]

/-- Opcodes `$A0` to `$AF` (30_encoding.md R95). -/
def opcodeRowsA : List Row :=
  [.immX .ldyImm, .op8 .ldaZpXInd, .immX .ldxImm, .op8 .ldaSr,
   .op8 .ldyZp, .op8 .ldaZp, .op8 .ldxZp, .op8 .ldaZpIndLong,
   .op .tay, .immM .ldaImm, .op .tax, .op .plb,
   .op16 .ldyAbs, .op16 .ldaAbs, .op16 .ldxAbs, .op24 .ldaLong]

/-- Opcodes `$B0` to `$BF` (30_encoding.md R95). -/
def opcodeRowsB : List Row :=
  [.op8 .bcs, .op8 .ldaZpIndY, .op8 .ldaZpInd, .op8 .ldaSrIndY,
   .op8 .ldyZpX, .op8 .ldaZpX, .op8 .ldxZpY, .op8 .ldaZpIndLongY,
   .op .clv, .op16 .ldaAbsY, .op .tsx, .op .tyx,
   .op16 .ldyAbsX, .op16 .ldaAbsX, .op16 .ldxAbsY, .op24 .ldaLongX]

/-- Opcodes `$C0` to `$CF` (30_encoding.md R95). -/
def opcodeRowsC : List Row :=
  [.immX .cpyImm, .op8 .cmpZpXInd, .op8 .rep, .op8 .cmpSr,
   .op8 .cpyZp, .op8 .cmpZp, .op8 .decZp, .op8 .cmpZpIndLong,
   .op .iny, .immM .cmpImm, .op .dex, .op .wai,
   .op16 .cpyAbs, .op16 .cmpAbs, .op16 .decAbs, .op24 .cmpLong]

/-- Opcodes `$D0` to `$DF` (30_encoding.md R95). -/
def opcodeRowsD : List Row :=
  [.op8 .bne, .op8 .cmpZpIndY, .op8 .cmpZpInd, .op8 .cmpSrIndY,
   .op8 .peaZpInd, .op8 .cmpZpX, .op8 .decZpX, .op8 .cmpZpIndLongY,
   .op .cld, .op16 .cmpAbsY, .op .phx, .op .stp,
   .op16 .jmpAbsIndLong, .op16 .cmpAbsX, .op16 .decAbsX, .op24 .cmpLongX]

/-- Opcodes `$E0` to `$EF` (30_encoding.md R95). -/
def opcodeRowsE : List Row :=
  [.immX .cpxImm, .op8 .sbcZpXInd, .op8 .sep, .op8 .sbcSr,
   .op8 .cpxZp, .op8 .sbcZp, .op8 .incZp, .op8 .sbcZpIndLong,
   .op .inx, .immM .sbcImm, .op .nop, .op .xba,
   .op16 .cpxAbs, .op16 .sbcAbs, .op16 .incAbs, .op24 .sbcLong]

/-- Opcodes `$F0` to `$FF` (30_encoding.md R95). -/
def opcodeRowsF : List Row :=
  [.op8 .beq, .op8 .sbcZpIndY, .op8 .sbcZpInd, .op8 .sbcSrIndY,
   .op16 .peaImm, .op8 .sbcZpX, .op8 .incZpX, .op8 .sbcZpIndLongY,
   .op .sed, .op16 .sbcAbsY, .op .plx, .op .xce,
   .op16 .jsrAbsXInd, .op16 .sbcAbsX, .op16 .incAbsX, .op24 .sbcLongX]

/-- The opcode map: entry `b` is the row of opcode `b` (30_encoding.md R95). -/
def opcodeTable : List Row :=
  opcodeRows0 ++ opcodeRows1 ++ opcodeRows2 ++ opcodeRows3 ++ opcodeRows4 ++ opcodeRows5 ++ opcodeRows6 ++ opcodeRows7 ++
  opcodeRows8 ++ opcodeRows9 ++ opcodeRowsA ++ opcodeRowsB ++ opcodeRowsC ++ opcodeRowsD ++ opcodeRowsE ++ opcodeRowsF

/-- A `#` immediate of one byte when the width predicate holds, else of two, little-endian
(30_encoding.md R92, R93). -/
def readImm (is8 : Bool) (mk : Imm → Instr) (rest : List Byte) : Except DecodeError Instr :=
  match is8, rest with
  | true, b1 :: _ => .ok (mk (.b8 b1))
  | false, b1 :: b2 :: _ => .ok (mk (.b16 (word b2 b1)))
  | _, _ => .error .truncated

/-- The operand bytes of a row, assembled little-endian (30_encoding.md R91, R93). -/
def Row.read (m8 x8 : Bool) (r : Row) (rest : List Byte) : Except DecodeError Instr :=
  match r, rest with
  | .op i, _ => .ok i
  | .op8 mk, b1 :: _ => .ok (mk b1)
  | .op16 mk, b1 :: b2 :: _ => .ok (mk (word b2 b1))
  | .op24 mk, b1 :: b2 :: b3 :: _ => .ok (mk (addr b3 (word b2 b1)))
  | .immM mk, rest => readImm m8 mk rest
  | .immX mk, rest => readImm x8 mk rest
  | .blk mk, b1 :: b2 :: _ => .ok (mk b1 b2)
  | _, _ => .error .truncated

/-- The decoder (30_encoding.md R92, R103): the opcode byte selects the row, the width predicates the length of a
`#` immediate. Bytes beyond the instruction are not read. -/
def decode (m8 x8 : Bool) (bytes : List Byte) : Except DecodeError Instr :=
  match bytes with
  | [] => .error .truncated
  | b0 :: rest =>
    match opcodeTable[b0.toNat]? with
    | some r => r.read m8 x8 rest
    | none => .error .unassigned

/-- The bytes of an immediate, little-endian (30_encoding.md R91, R93). -/
def Imm.bytes : Imm → List Byte
  | .b8 v => [v]
  | .b16 v => [lo v, hi v]

/-- The bytes of a 24-bit operand, little-endian (30_encoding.md R91 `OP_L24`). -/
def longBytes (a : Addr) : List Byte := [lo (offset a), hi (offset a), bank a]

/-- The operand bytes of a memory mode (30_encoding.md R91). -/
def Mode.bytes : Mode → List Byte
  | .zp b | .zpX b | .zpY b | .zpInd b | .zpXInd b | .zpIndY b | .zpIndLong b | .zpIndLongY b | .sr b | .srIndY b => [b]
  | .abs w | .absX w | .absY w => [lo w, hi w]
  | .long a | .longX a => longBytes a

/-- The operand bytes of a form (30_encoding.md R91). -/
def Form.bytes : Form → List Byte
  | .implied | .acc => []
  | .sig b | .imm8 b | .rel b => [b]
  | .data (.imm v) => v.bytes
  | .data (.mem m) => m.bytes
  | .imm16 w | .absInd w | .absXInd w | .absIndLong w | .rell w => [lo w, hi w]
  | .blk dst src => [dst, src]

/-- The encoder: the opcode byte, then the operand bytes (30_encoding.md R90, R91). -/
def encode (i : Instr) : List Byte := i.opcode :: i.form.bytes

/-- Byte `k` of the number `w`, bit 0 of `w` the least significant bit of byte 0. -/
def byteOf (w k : Nat) : Byte := BitVec.ofNat 8 (w / 256 ^ k)

/-- The four bytes an instruction of `nbits` bits has in memory, the bits above `nbits` zero. -/
def wordBytes (nbits w : Nat) : List Byte :=
  [byteOf (w % 2 ^ nbits) 0, byteOf (w % 2 ^ nbits) 1, byteOf (w % 2 ^ nbits) 2, byteOf (w % 2 ^ nbits) 3]

/-- The instruction the decoder reads from the bits `w` with the widths the machine has after reset: emulation mode,
8-bit immediates (10_state.md R45, 00_scope.md R9). -/
def decodeTableWord (nbits w : Nat) : Option Instr := (decode true true (wordBytes nbits w)).toOption

end Sys2Proof
end

