-- ==== Sys2Proof/Config.lean ====
section
/-! DEFINITION. What the spec leaves open: the named parameters of 00_scope.md R5 as one record, which the state of the
machine carries, and the free values and functions, which have no body. -/

namespace Sys2Proof

/-- `DP_WRAP_COND` (40_addressing_modes.md R126). -/
inductive DpWrapCond where
  | sourceRule
  | hardwareRule
deriving DecidableEq, Repr

/-- `FLAG_PROFILE` (10_state.md R36). -/
inductive FlagProfile where
  | source
  | hardware
deriving DecidableEq, Repr

/-- `WDM_LENGTH` (49_system.md R336). -/
inductive WdmLength where
  | one
  | two
deriving DecidableEq, Repr

/-- `DecimalAdd` and `DecimalSub` (42_alu.md R192). -/
inductive DecimalRule where
  /-- the BCD definition; what it leaves unspecified is drawn free -/
  | definition
  /-- the platform's total functions `Config.decimalAdd` and `Config.decimalSub`, which refine the definition -/
  | platform
deriving DecidableEq, Repr

/-- `BYTE_ORDER_IN_WORD_ACCESS` (20_memory.md R65): which byte of a 16-bit store goes on the bus first. -/
inductive ByteOrder where
  | lowFirst
  | highFirst
deriving DecidableEq, Repr

/-- `ResetDraw`: values for what reset does not fix, `AL` and `AH` as one word (10_state.md R45). -/
structure ResetDraw where
  a : Word
  xl : Byte
  yl : Byte
  sl : Byte
  n : Bool
  v : Bool
  z : Bool
  c : Bool
deriving DecidableEq, Repr

/-- The parameters of 00_scope.md R5, all but `Platform.mem`, which is the state's memory. The defaults are the
spec's. -/
structure Params where
  /-- `DP_CARRY`: direct-page sums may leave bank 0 (R124). -/
  dpCarry : Bool := true
  /-- `DP_WRAP_COND`: when an emulation-mode direct-page access stays in its page (R126). -/
  dpWrapCond : DpWrapCond := .sourceRule
  /-- `FLAG_PROFILE`: the flags of PLB PLD TCD XBA TRB TSB BIT# (R36). -/
  flagProfile : FlagProfile := .source
  /-- `WDM_LENGTH`: the length of `$42` (R336). -/
  wdmLength : WdmLength := .one
  /-- `ABORT_ASSERTED`: the platform may assert ABORT (R362). -/
  abortAsserted : Bool := false
  /-- `DecimalAdd`, `DecimalSub` (R192). -/
  decimal : DecimalRule := .definition
  /-- `ResetDraw`: free (nothing), or the values a reset gives (R45). -/
  resetDraw : Option ResetDraw := none
  /-- `BYTE_ORDER_IN_WORD_ACCESS` (R65). -/
  byteOrder : ByteOrder := .lowFirst
deriving DecidableEq, Repr

/-- The `k`-th free bit: any value (10_state.md R45, 42_alu.md R190 to R192). It has no body. -/
opaque Config.freeBit : Nat → Bool

/-- The `k`-th free word: any value (10_state.md R45, 42_alu.md R192). It has no body. -/
opaque Config.freeWord : Nat → Word

/-- The platform's `DecimalAdd` (00_scope.md R5, 42_alu.md R192): result, C and V of two values and a carry at a
width. Any total function: it has no body. -/
opaque Config.decimalAdd : (w : Width) → BitVec w.bits → BitVec w.bits → Bool → BitVec w.bits × Bool × Bool

/-- The platform's `DecimalSub` (00_scope.md R5, 42_alu.md R192). Any total function: it has no body. -/
opaque Config.decimalSub : (w : Width) → BitVec w.bits → BitVec w.bits → Bool → BitVec w.bits × Bool × Bool

end Sys2Proof
end

