-- ==== Sys2Proof/Machine/Params.lean ====
section
/-! DEFINITION. The parameter values of the state after reset: the spec's defaults (00_scope.md R5, the table of open
parameters in 92_eei_decisions.md). A state with any other values runs as well. -/

namespace Sys2Proof.Machine

/-- The spec's defaults. DESIGN CHOICE among what the spec leaves open (assumption log 6 to 12): unsafe where another
setting differs, and only for claims that start from `State.reset`. -/
def params : Params where
  dpCarry := true
  dpWrapCond := .sourceRule
  flagProfile := .source
  wdmLength := .one
  abortAsserted := false
  decimal := .definition
  resetDraw := none
  byteOrder := .lowFirst

end Sys2Proof.Machine
end

