-- ==== Sys2Proof/Machine/State.lean ====
section
/-! DEFINITION. The machine's state as plain data (10_state.md R20, R29, R37; 20_memory.md R60), why a step can stop,
and the state after reset (10_state.md R45). -/

namespace Sys2Proof.Machine

/-- Why a step stops with a fault. The spec gives the processor no fault (60_exceptions.md R350). -/
inductive Fault where
  /-- The decoder was given fewer bytes than the instruction has. Named in the step for the decoder's rejection;
  the step always gives the decoder four bytes, so no step ends in it. Safe. -/
  | truncatedInstruction
deriving DecidableEq, Repr

/-- Why an instruction is refused. -/
inductive Refusal where
  /-- The instruction has no meaning in this model yet: raised by `exec`'s arms only, and by none of them now. Safe. -/
  | notModelled (mnemonic : String)
deriving DecidableEq, Repr

/-- `run` (10_state.md R37): only `running` fetches instructions. -/
inductive RunState where
  | running
  | waiting
  | stopped
deriving DecidableEq, Repr

/-- The memory cells that differ from what an unlisted address reads as, by address (`Platform.mem`, 20_memory.md
R66). The operations over it are in `Sys2Proof.Machine.Memory`'s file. -/
abbrev Memory := List Host.Cell

/-- The machine. -/
@[ext]
structure State where
  /-- `A`, both halves (R21) -/
  a : Word
  /-- `X` (R22) -/
  x : Word
  /-- `Y` (R22) -/
  y : Word
  /-- `D`, the direct page register (R23) -/
  d : Word
  /-- `S`, the stack pointer (R26) -/
  sp : Word
  /-- `PC` (R27) -/
  pc : Word
  /-- `DBR`, the data bank register (R24) -/
  dbr : Byte
  /-- `PBR`, the code bank register (R25) -/
  pbr : Byte
  /-- `P`: N V M X D I Z C from bit 7 down (R31) -/
  p : Byte
  /-- `E`, the ninth bit of the status register (R29, R30) -/
  e : Bool
  /-- `run` (R37) -/
  run : RunState
  /-- `nmi_pending` (R37) -/
  nmiPending : Bool
  /-- `irq_line`, a level (R37) -/
  irqLine : Bool
  /-- `abort_line`, a level (R37) -/
  abortLine : Bool
  /-- `reset_line`, a level (R37) -/
  resetLine : Bool
  /-- memory (20_memory.md R60, R66) -/
  mem : Memory
  /-- how many free values have been drawn: the model's own field (assumption log 4) -/
  draws : Nat
  /-- the parameters of 00_scope.md R5, set when the machine is launched and changed by no step: the model's own
  field (assumption log 21) -/
  cfg : Params
deriving DecidableEq, Repr

/-- The machine right after reset (10_state.md R45). `PC` is the reset vector, read from memory with nothing
listed. DESIGN CHOICE, unsafe (assumption log 2): `A`, `XL`, `YL`, N, V, Z and C are zero and `SL` is `$FF`, where the
spec leaves them unspecified; (3): the interrupt lines are deasserted; (4): `draws` is 0;
(6 to 12, 21): the parameters have the spec's defaults. -/
def State.reset : State where
  a := 0
  x := 0
  y := 0
  d := 0
  sp := 0x01FF
  pc := 0
  dbr := 0
  pbr := 0
  p := 0x34
  e := true
  run := .running
  nmiPending := false
  irqLine := false
  abortLine := false
  resetLine := false
  mem := []
  draws := 0
  cfg := params

end Sys2Proof.Machine
end

