-- ==== Sys2Proof/Machine/Flags.lean ====
section
/-! DEFINITION. The status register: the flags by name (10_state.md R31), the width predicates (00_scope.md R9),
`SetNZ` (R10), `WriteP` (10_state.md R35), and the results and flags of every arithmetic, compare, shift and decimal
operation (42_alu.md, 43_shift_incdec.md), at any operand width. -/

namespace Sys2Proof.Machine

/-- The eight flags of `P`. -/
inductive Flag where
  | n | v | m | x | d | i | z | c
deriving DecidableEq, Repr

/-- The bit of `P` a flag is (10_state.md R31). -/
def Flag.bit : Flag → Nat
  | .n => 7 | .v => 6 | .m => 5 | .x => 4 | .d => 3 | .i => 2 | .z => 1 | .c => 0

/-- The flag's mask (10_state.md R31). -/
def Flag.mask (f : Flag) : Byte := 1#8 <<< f.bit

/-- A flag of a status byte. -/
def flagOf (p : Byte) (f : Flag) : Bool := p.getLsbD f.bit

/-- A status byte with one flag written and the others kept. -/
def withFlag (p : Byte) (f : Flag) (b : Bool) : Byte := if b then p ||| f.mask else p &&& ~~~f.mask

/-- A flag of `P`. -/
def State.flag (s : State) (f : Flag) : Bool := flagOf s.p f

/-- `P.f <- b`. -/
def State.setFlag (s : State) (f : Flag) (b : Bool) : State := { s with p := withFlag s.p f b }

/-- `m8` (00_scope.md R9). -/
def State.m8 (s : State) : Bool := s.e || s.flag .m

/-- `x8` (00_scope.md R9). -/
def State.x8 (s : State) : Bool := s.e || s.flag .x

/-- `wm` (00_scope.md R9). -/
def State.wm (s : State) : Width := Width.of s.m8

/-- `wx` (00_scope.md R9). -/
def State.wx (s : State) : Width := Width.of s.x8

/-- `SetNZ(v, w)` (00_scope.md R10). -/
def State.setNZ {n : Nat} (v : BitVec n) (s : State) : State :=
  (s.setFlag .n v.msb).setFlag .z (decide (v = 0))

/-- `XH <- $00; YH <- $00` (10_state.md R22). -/
def State.clearIndexHigh (s : State) : State := { s with x := word 0 (lo s.x), y := word 0 (lo s.y) }

/-- The byte `WriteP(v)` stores: in emulation mode bits 5 and 4 stay 1 (10_state.md R33, R35). -/
def writtenP (e : Bool) (v : Byte) : Byte := if e then v ||| 0x30 else v

/-- `WriteP(v)` (10_state.md R35). -/
def State.writeP (v : Byte) (s : State) : State :=
  let s' := { s with p := writtenP s.e v }
  if s'.flag .x then s'.clearIndexHigh else s'

/-- The next free bit and the state that has drawn it. -/
def State.drawBit (s : State) : Bool × State := (Config.freeBit s.draws, { s with draws := s.draws + 1 })

/-- The next free word and the state that has drawn it. -/
def State.drawWord (s : State) : Word × State := (Config.freeWord s.draws, { s with draws := s.draws + 1 })

/-- `P.f <- unspecified`: any value. -/
def State.setFlagFree (s : State) (f : Flag) : State := s.drawBit.2.setFlag f s.drawBit.1

/-- What an addition or subtraction gives: its result, carry and overflow. -/
structure Arith (n : Nat) where
  value : BitVec n
  carry : Bool
  overflow : Bool
deriving DecidableEq, Repr

/-- The exact sum of ADC with `P.D = 0` (42_alu.md R181). -/
def addSum {n : Nat} (a m : BitVec n) (c : Bool) : Nat := a.toNat + m.toNat + c.toNat

/-- ADC with `P.D = 0` (42_alu.md R181). -/
def binaryAdd {n : Nat} (a m : BitVec n) (c : Bool) : Arith n :=
  let r := BitVec.ofNat n (addSum a m c)
  { value := r, carry := decide (2 ^ n ≤ addSum a m c), overflow := a.msb == m.msb && r.msb != a.msb }

/-- The exact sum of SBC with `P.D = 0`: `a + ((2^w - 1) - m) + P.C` (42_alu.md R189). -/
def subSum {n : Nat} (a m : BitVec n) (c : Bool) : Nat := a.toNat + (2 ^ n - 1 - m.toNat) + c.toNat

/-- SBC with `P.D = 0` (42_alu.md R189). -/
def binarySub {n : Nat} (a m : BitVec n) (c : Bool) : Arith n :=
  let r := BitVec.ofNat n (subSum a m c)
  { value := r, carry := decide (2 ^ n ≤ subSum a m c), overflow := a.msb != m.msb && r.msb != a.msb }

/-- Every one of the `k` low digits is at most 9 (42_alu.md R192, valid BCD). -/
def bcdValid (k v : Nat) : Bool :=
  match k with
  | 0 => true
  | j + 1 => decide (v % 16 ≤ 9) && bcdValid j (v / 16)

/-- `val(v)` over `k` digits (42_alu.md R192). -/
def bcdVal (k v : Nat) : Nat :=
  match k with
  | 0 => 0
  | j + 1 => v % 16 + 10 * bcdVal j (v / 16)

/-- `bcd(t)` over `k` digits (42_alu.md R192). -/
def bcdOf (k t : Nat) : Nat :=
  match k with
  | 0 => 0
  | j + 1 => t % 10 + 16 * bcdOf j (t / 10)

/-- The number of BCD digits of a width: `w/4` (42_alu.md R192). -/
def Width.digits (w : Width) : Nat := w.bits / 4

/-- Both operands are valid BCD (42_alu.md R192). -/
def decimalValid (w : Width) (a m : BitVec w.bits) : Bool :=
  bcdValid (Width.digits w) a.toNat && bcdValid (Width.digits w) m.toNat

/-- `t` of `DecimalAdd` (42_alu.md R192). -/
def decimalSum (w : Width) (a m : BitVec w.bits) (c : Bool) : Nat :=
  bcdVal (Width.digits w) a.toNat + bcdVal (Width.digits w) m.toNat + c.toNat

/-- `t` of `DecimalSub` (42_alu.md R192). -/
def decimalDiff (w : Width) (a m : BitVec w.bits) (c : Bool) : Int :=
  (bcdVal (Width.digits w) a.toNat : Int) - bcdVal (Width.digits w) m.toNat - (1 - c.toNat)

/-- `DecimalAdd` on valid operands: result and carry (42_alu.md R192). -/
def decimalAdd (w : Width) (a m : BitVec w.bits) (c : Bool) : BitVec w.bits × Bool :=
  (BitVec.ofNat w.bits (bcdOf (Width.digits w) (decimalSum w a m c % 10 ^ Width.digits w)),
    decide (10 ^ Width.digits w ≤ decimalSum w a m c))

/-- `DecimalSub` on valid operands: result and carry (42_alu.md R192). -/
def decimalSub (w : Width) (a m : BitVec w.bits) (c : Bool) : BitVec w.bits × Bool :=
  (BitVec.ofNat w.bits (bcdOf (Width.digits w) (decimalDiff w a m c % 10 ^ Width.digits w).toNat),
    decide (0 ≤ decimalDiff w a m c))

/-- What a read-modify-write operation gives: the new value, and the new C where it changes C. -/
structure Modified (n : Nat) where
  value : BitVec n
  carry : Option Bool
deriving DecidableEq, Repr

/-- A carry bit as an `n`-bit value. -/
def carryBits (n : Nat) (c : Bool) : BitVec n := BitVec.ofNat n c.toNat

/-- ASL (43_shift_incdec.md R201). -/
def aslOf (n : Nat) (_c : Bool) (m : BitVec n) : Modified n := ⟨m <<< 1, some m.msb⟩

/-- LSR (43_shift_incdec.md R208). -/
def lsrOf (n : Nat) (_c : Bool) (m : BitVec n) : Modified n := ⟨m >>> 1, some (m.getLsbD 0)⟩

/-- ROL (43_shift_incdec.md R209): the old C enters bit 0. -/
def rolOf (n : Nat) (c : Bool) (m : BitVec n) : Modified n := ⟨m <<< 1 ||| carryBits n c, some m.msb⟩

/-- ROR (43_shift_incdec.md R210): the old C enters the top bit. -/
def rorOf (n : Nat) (c : Bool) (m : BitVec n) : Modified n :=
  ⟨m >>> 1 ||| carryBits n c <<< (n - 1), some (m.getLsbD 0)⟩

/-- INC (43_shift_incdec.md R205): C unchanged. -/
def incOf (n : Nat) (_c : Bool) (m : BitVec n) : Modified n := ⟨m + 1, none⟩

/-- DEC (43_shift_incdec.md R202): C unchanged. -/
def decOf (n : Nat) (_c : Bool) (m : BitVec n) : Modified n := ⟨m - 1, none⟩

end Sys2Proof.Machine
end

