-- ==== Sys2Proof/Machine/Memory.lean ====
section
/-! DEFINITION. Memory: one byte read and written (20_memory.md R67), the wrap classes and the multi-byte accesses
(R68), little-endian (R63). -/

namespace Sys2Proof.Machine

/-- What an address that is not listed reads as. DESIGN CHOICE, unsafe (assumption log 1): the zero of the spec's
default platform (92_eei_decisions.md D4). -/
def Memory.unlisted : Byte := 0

/-- The byte listed at an address number, or what an unlisted one reads as. -/
def Memory.readAt (m : Memory) (k : Nat) : Byte :=
  match m with
  | [] => Memory.unlisted
  | (j, v) :: r => if k = j then v else Memory.readAt r k

/-- Puts a byte in front of a list, unless it is what an unlisted address reads as. -/
def Memory.consAt (k : Nat) (v : Byte) (r : Memory) : Memory :=
  if v = Memory.unlisted then r else (k, v) :: r

/-- Stores a byte at an address number, keeping the list in its canonical form. -/
def Memory.writeAt (m : Memory) (k : Nat) (v : Byte) : Memory :=
  match m with
  | [] => Memory.consAt k v []
  | (j, w) :: r =>
    if k < j then Memory.consAt k v ((j, w) :: r)
    else if k = j then Memory.consAt k v r
    else (j, w) :: Memory.writeAt r k v

/-- Every address of the list is at least `k`, the addresses rise strictly and are below `2^24`, and no entry equals
what an unlisted address reads as. -/
def Memory.wfFrom (k : Nat) (m : Memory) : Bool :=
  match m with
  | [] => true
  | (j, v) :: r => decide (k ≤ j) && decide (j < 2 ^ 24) && decide (v ≠ Memory.unlisted) && Memory.wfFrom (j + 1) r

/-- The canonical form of memory. -/
def Memory.wf (m : Memory) : Bool := Memory.wfFrom 0 m

/-- `MemRead8` (20_memory.md R67). -/
def Memory.read (m : Memory) (a : Addr) : Byte := Memory.readAt m a.toNat

/-- `MemWrite8` (20_memory.md R67). -/
def Memory.write (m : Memory) (a : Addr) (v : Byte) : Memory := Memory.writeAt m a.toNat v

/-- The wrap classes of a multi-byte access (20_memory.md R68). -/
inductive WrapClass where
  | linear
  | bank0
  | pbank
deriving DecidableEq, Repr

/-- `Next(a, k, cls)` (20_memory.md R68). -/
def nextAddr (a : Addr) (k : Nat) (cls : WrapClass) : Addr :=
  match cls with
  | .linear => a + BitVec.ofNat 24 k
  | .bank0 => addr 0 (offset a + BitVec.ofNat 16 k)
  | .pbank => addr (bank a) (offset a + BitVec.ofNat 16 k)

/-- An effective address and its wrap class (40_addressing_modes.md, opening). -/
structure EA where
  addr : Addr
  cls : WrapClass
deriving DecidableEq, Repr

/-- The address of byte `k` of an access. -/
def EA.byte (ea : EA) (k : Nat) : Addr := nextAddr ea.addr k ea.cls

/-- `MemRead(ea, 1, cls)` (20_memory.md R68). -/
def Memory.read8 (m : Memory) (ea : EA) : Byte := m.read (ea.byte 0)

/-- `MemRead(ea, 2, cls)` (20_memory.md R68): byte 0 least significant. -/
def Memory.read16 (m : Memory) (ea : EA) : Word := word (m.read (ea.byte 1)) (m.read (ea.byte 0))

/-- `MemRead(ea, 3, cls)` (20_memory.md R68). -/
def Memory.read24 (m : Memory) (ea : EA) : Addr := addr (m.read (ea.byte 2)) (m.read16 ea)

/-- `MemRead(ea, w/8, cls)` at an operand width (20_memory.md R65, R68). -/
def Memory.readW (m : Memory) (w : Width) (ea : EA) : BitVec w.bits :=
  match w with
  | .w8 => m.read8 ea
  | .w16 => m.read16 ea

/-- `MemWrite(ea, w/8, v, cls)` at an operand width (20_memory.md R65, R68): the low byte at byte 0, the two bytes
of a word written in the order of `BYTE_ORDER_IN_WORD_ACCESS`. -/
def Memory.writeW (m : Memory) (b : ByteOrder) (w : Width) (ea : EA) (v : BitVec w.bits) : Memory :=
  match w, b, v with
  | .w8, _, v => m.write (ea.byte 0) v
  | .w16, .lowFirst, v => (m.write (ea.byte 0) (lo v)).write (ea.byte 1) (hi v)
  | .w16, .highFirst, v => (m.write (ea.byte 1) (hi v)).write (ea.byte 0) (lo v)

end Sys2Proof.Machine
end

