-- ==== Sys2Proof/Machine/Ops.lean ====
section
/-! DEFINITION. The shared operations over registers and stack (10_state.md, 20_memory.md R75 to R80), taking a trap
and returning from one (60_exceptions.md R351 to R354, 49_system.md R333), the reset sequence (70_reset_and_hazards.md
R400), instruction fetch (30_encoding.md R92), and what the signals decide between instructions (60_exceptions.md
R358). -/

namespace Sys2Proof.Machine

/-- What an instruction or a step answers. -/
abbrev Result := Host.Outcome State Fault Refusal

/-- `PC <- PC + k`, modulo `2^16` within the bank (10_state.md R28): an instruction of `k` bytes ends here
(00_scope.md R10, `pcn`). -/
def State.advance (k : Nat) (s : State) : State := { s with pc := s.pc + BitVec.ofNat 16 k }

/-- The accumulator at a width: `AL` or `A` (10_state.md R21). -/
def State.acc (w : Width) (s : State) : BitVec w.bits := s.a.setWidth w.bits

/-- Writes the accumulator at a width; at 8 bits `AH` is unchanged (10_state.md R21). -/
def State.setAcc (w : Width) (v : BitVec w.bits) (s : State) : State :=
  match w, v with
  | .w8, v => { s with a := word (hi s.a) v }
  | .w16, v => { s with a := v }

/-- `X[w-1:0]` (10_state.md R22). -/
def State.xLow (w : Width) (s : State) : BitVec w.bits := s.x.setWidth w.bits

/-- `Y[w-1:0]` (10_state.md R22). -/
def State.yLow (w : Width) (s : State) : BitVec w.bits := s.y.setWidth w.bits

/-- `X <- zext_16(v)` (10_state.md R22). -/
def State.setX {n : Nat} (v : BitVec n) (s : State) : State := { s with x := v.setWidth 16 }

/-- `Y <- zext_16(v)` (10_state.md R22). -/
def State.setY {n : Nat} (v : BitVec n) (s : State) : State := { s with y := v.setWidth 16 }

/-- `S` after pushing one byte (20_memory.md R75): in emulation mode only `SL` counts (R80). -/
def pushedSp (e : Bool) (sp : Word) : Word := if e then word (hi sp) (lo sp - 1) else sp - 1

/-- `S` after pulling one byte (20_memory.md R77, R80). -/
def pulledSp (e : Bool) (sp : Word) : Word := if e then word (hi sp) (lo sp + 1) else sp + 1

/-- `Push8` (20_memory.md R75). -/
def State.push8 (v : Byte) (s : State) : State :=
  { s with mem := s.mem.write (addr 0 s.sp) v, sp := pushedSp s.e s.sp }

/-- `Push16` (20_memory.md R76): high byte first. -/
def State.push16 (v : Word) (s : State) : State := (s.push8 (hi v)).push8 (lo v)

/-- Pushes a value of a register width (45_stack.md R250). -/
def State.pushW (w : Width) (v : BitVec w.bits) (s : State) : State :=
  match w, v with
  | .w8, v => s.push8 v
  | .w16, v => s.push16 v

/-- `Pull8` (20_memory.md R77). -/
def State.pull8 (s : State) : Byte × State :=
  (s.mem.read (addr 0 (pulledSp s.e s.sp)), { s with sp := pulledSp s.e s.sp })

/-- `Pull16` (20_memory.md R78): low byte first. -/
def State.pull16 (s : State) : Word × State :=
  (word s.pull8.2.pull8.1 s.pull8.1, s.pull8.2.pull8.2)

/-- Pulls a value of a register width (45_stack.md R250). -/
def State.pullW (w : Width) (s : State) : BitVec w.bits × State :=
  match w with
  | .w8 => s.pull8
  | .w16 => s.pull16

/-- The events that enter a trap (60_exceptions.md R350); RESET is not one, it saves nothing. -/
inductive Trap where
  | brk
  | cop
  | abort
  | nmi
  | irq
deriving DecidableEq, Repr

/-- `Vector(kind, E)` (60_exceptions.md R351). -/
def vector (k : Trap) (e : Bool) : Word :=
  match e, k with
  | false, .cop => 0xFFE4
  | false, .brk => 0xFFE6
  | false, .abort => 0xFFE8
  | false, .nmi => 0xFFEA
  | false, .irq => 0xFFEE
  | true, .cop => 0xFFF4
  | true, .brk => 0xFFFE
  | true, .abort => 0xFFF8
  | true, .nmi => 0xFFFA
  | true, .irq => 0xFFFE

/-- The emulation-mode RESET vector (60_exceptions.md R351). -/
def resetVector : Word := 0xFFFC

/-- The B bit of a pushed status byte: 1 for BRK and COP, 0 for the interrupts (60_exceptions.md R354). -/
def pushesB (k : Trap) : Bool :=
  match k with
  | .brk | .cop => true
  | .abort | .nmi | .irq => false

/-- `PImage(kind)` (60_exceptions.md R354): in emulation mode bit 5 is 1 and bit 4 is B. -/
def pImage (k : Trap) (s : State) : Byte :=
  if s.e then withFlag (withFlag s.p .m true) .x (pushesB k) else s.p

/-- The frame a trap pushes: three bytes in emulation mode (60_exceptions.md R353), four in native mode (R352). -/
def State.pushFrame (k : Trap) (ret : Word) (s : State) : State :=
  if s.e then (s.push16 ret).push8 (pImage k s)
  else ((s.push8 s.pbr).push16 ret).push8 (pImage k s)

/-- `TrapEntry(kind, ret)` in the current mode (60_exceptions.md R352, R353, R360). -/
def State.trapEntry (k : Trap) (ret : Word) (s : State) : State :=
  let t := s.pushFrame k ret
  { t with
    p := withFlag (withFlag t.p .i true) .d false
    pbr := 0
    pc := t.mem.read16 { addr := addr 0 (vector k s.e), cls := .bank0 } }

/-- RTI's effect, the reverse of the trap entry (49_system.md R333). -/
def State.returnFromTrap (s : State) : State :=
  let s1 := s.pull8.2.writeP s.pull8.1
  let s2 := { s1.pull16.2 with pc := s1.pull16.1 }
  if s2.e then s2 else { s2.pull8.2 with pbr := s2.pull8.1 }

/-- Taking an interrupt at an instruction boundary: the return address is the `PC` of the next instruction, and a
wait ends (60_exceptions.md R358, R364). -/
def State.takeInterrupt (k : Trap) (s : State) : State := { s with run := .running }.trapEntry k s.pc

/-- The status byte after reset: M, X, I set, D clear, N, V, Z, C as drawn (10_state.md R45). -/
def resetP (n v z c : Bool) : Byte :=
  withFlag (withFlag (withFlag (withFlag 0x34 .n n) .v v) .z z) .c c

/-- `ResetDraw`: the values the platform gives, else free ones (10_state.md R45; 00_scope.md R5). -/
def State.resetDraw (s : State) : ResetDraw :=
  match s.cfg.resetDraw with
  | some r => r
  | none =>
    { a := Config.freeWord s.draws
      xl := lo (Config.freeWord (s.draws + 1))
      yl := lo (Config.freeWord (s.draws + 2))
      sl := lo (Config.freeWord (s.draws + 3))
      n := Config.freeBit s.draws
      v := Config.freeBit (s.draws + 1)
      z := Config.freeBit (s.draws + 2)
      c := Config.freeBit (s.draws + 3) }

/-- `Reset()` (70_reset_and_hazards.md R400): what reset does not fix is drawn afresh (`ResetDraw`). -/
def State.resetSequence (s : State) : State :=
  { s with
    e := true
    a := s.resetDraw.a
    x := word 0 s.resetDraw.xl
    y := word 0 s.resetDraw.yl
    sp := word 1 s.resetDraw.sl
    p := resetP s.resetDraw.n s.resetDraw.v s.resetDraw.z s.resetDraw.c
    d := 0
    dbr := 0
    pbr := 0
    pc := s.mem.read16 { addr := addr 0 resetVector, cls := .bank0 }
    run := .running
    nmiPending := false
    draws := s.draws + 4 }

/-- The machine of a platform right after reset: with any setting of the parameters of 00_scope.md R5 and any initial
memory (`Platform.mem`, 20_memory.md R66). -/
def State.launch (q : Params) (m : Memory) : State := { State.reset with cfg := q, mem := m }.resetSequence

/-- `Fetch8(k)` (30_encoding.md R92): the byte at `PBR : (PC + k) mod 2^16`. -/
def State.fetch8 (k : Nat) (s : State) : Byte := s.mem.read (addr s.pbr (s.pc + BitVec.ofNat 16 k))

/-- The four bytes from `PC` on: as many as the longest instruction has (30_encoding.md R90). -/
def State.fetchBytes (s : State) : List Byte := [s.fetch8 0, s.fetch8 1, s.fetch8 2, s.fetch8 3]

/-- The instruction at `PBR:PC`, decoded with the current width predicates (30_encoding.md R92, R97). -/
def State.fetchInstr (s : State) : Except DecodeError Instr := decode s.m8 s.x8 s.fetchBytes

/-- What the signals and `run` decide at an instruction boundary, in the order of `Step()` (60_exceptions.md R357,
R358): the next state, or nothing when one instruction is to be executed. -/
def State.boundary (s : State) : Option State :=
  if s.resetLine then some s.resetSequence
  else if s.run = .stopped then some s
  else if s.cfg.abortAsserted && s.abortLine then some (s.takeInterrupt .abort)
  else if s.nmiPending then some ({ s with nmiPending := false }.takeInterrupt .nmi)
  else if s.irqLine && !s.flag .i then some (s.takeInterrupt .irq)
  else if s.irqLine && decide (s.run = .waiting) then some { s with run := .running }
  else if s.run = .running then none
  else some s

/-- The bytes `bs` stored from `PBR:PC` on, wrapping inside the bank. -/
def State.storeAtPc (k : Nat) (bs : List Byte) (s : State) : State :=
  match bs with
  | [] => s
  | b :: r => State.storeAtPc (k + 1) r { s with mem := s.mem.write (addr s.pbr (s.pc + BitVec.ofNat 16 k)) b }

/-- Running, with no signal that a boundary would act on: the next step executes an instruction. -/
def State.quiet (s : State) : State :=
  { s with run := .running, nmiPending := false, irqLine := false, abortLine := false, resetLine := false }

end Sys2Proof.Machine
end

