-- ==== Sys2Proof/Machine/Operands.lean ====
section
/-! DEFINITION. Effective addresses, one rule of 40_addressing_modes.md each, and the operand accesses over them:
`LoadOperand`, `StoreOperand` (41_load_store.md R160) and `RMW` (43_shift_incdec.md R200). -/

namespace Sys2Proof.Machine

/-- `Legacy6502`: the indexed direct-page opcodes of the original 6502 (40_addressing_modes.md R126). -/
def legacy6502 : List Byte :=
  [0x15, 0x35, 0x55, 0x75, 0x95, 0xB5, 0xD5, 0xF5,
   0x16, 0x36, 0x56, 0x76, 0xD6, 0xF6,
   0x94, 0xB4,
   0x96, 0xB6,
   0x01, 0x21, 0x41, 0x61, 0x81, 0xA1, 0xC1, 0xE1]

/-- `WrapCond(op)` (40_addressing_modes.md R126). -/
def wrapCond (q : Params) (op : Byte) (d : Word) : Bool :=
  match q.dpWrapCond with
  | .sourceRule => decide (d = 0) && legacy6502.contains op
  | .hardwareRule => decide (lo d = 0)

/-- `DirectEA(zp, idx, op)` (40_addressing_modes.md R124). -/
def directEA (op zp : Byte) (idx : Word) (s : State) : EA :=
  let sum := s.d.toNat + zp.toNat + idx.toNat
  let ea :=
    if s.e && wrapCond s.cfg op s.d then addr 0 (word (hi s.d) (zp + lo idx))
    else if s.cfg.dpCarry then BitVec.ofNat 24 sum
    else addr 0 (BitVec.ofNat 16 sum)
  { addr := ea, cls := if s.cfg.dpCarry then .linear else .bank0 }

/-- A 24-bit sum of an address and an index (40_addressing_modes.md R139). -/
def indexed (a : Addr) (idx : Word) : Addr := a + idx.setWidth 24

/-- The address of `ds,S` (40_addressing_modes.md R136). -/
def stackEA (ds : Byte) (s : State) : EA := { addr := addr 0 (s.sp + ds.setWidth 16), cls := .bank0 }

/-- The effective address and wrap class of a memory mode, for the opcode `op` (40_addressing_modes.md R128 to R140,
R144, R145). -/
def effectiveAddress (op : Byte) (m : Mode) (s : State) : EA :=
  match m with
  | .zp b => directEA op b 0 s
  | .zpX b => directEA op b s.x s
  | .zpY b => directEA op b s.y s
  | .zpInd b => { addr := addr s.dbr (s.mem.read16 (directEA op b 0 s)), cls := .linear }
  | .zpXInd b => { addr := addr s.dbr (s.mem.read16 (directEA op b s.x s)), cls := .linear }
  | .zpIndY b => { addr := indexed (addr s.dbr (s.mem.read16 (directEA op b 0 s))) s.y, cls := .linear }
  | .zpIndLong b => { addr := s.mem.read24 (directEA op b 0 s), cls := .linear }
  | .zpIndLongY b => { addr := indexed (s.mem.read24 (directEA op b 0 s)) s.y, cls := .linear }
  | .sr ds => stackEA ds s
  | .srIndY ds => { addr := indexed (addr s.dbr (s.mem.read16 (stackEA ds s))) s.y, cls := .linear }
  | .abs w => { addr := addr s.dbr w, cls := .linear }
  | .absX w => { addr := indexed (addr s.dbr w) s.x, cls := .linear }
  | .absY w => { addr := indexed (addr s.dbr w) s.y, cls := .linear }
  | .long a => { addr := a, cls := .linear }
  | .longX a => { addr := indexed a s.x, cls := .linear }

/-- The pointer of `(abs)` and `[abs]`: in bank 0 (40_addressing_modes.md R141, R143). -/
def pointerEA (w : Word) : EA := { addr := addr 0 w, cls := .bank0 }

/-- The pointer of `(abs,X)`: in the program bank, the index sum wrapping inside it (40_addressing_modes.md R142). -/
def tableEA (w : Word) (s : State) : EA := { addr := addr s.pbr (w + s.x), cls := .pbank }

/-- The value of a `#` immediate at a width (40_addressing_modes.md R125). The decoder gives every immediate the
width it is used at; for any other the value is its low bits, zero-extended (assumption log 18). -/
def immValue (w : Width) (v : Imm) : BitVec w.bits :=
  match v with
  | .b8 b => b.setWidth w.bits
  | .b16 h => h.setWidth w.bits

/-- `LoadOperand(form, w)` (41_load_store.md R160). -/
def loadOperand (w : Width) (op : Byte) (o : DataOperand) (s : State) : BitVec w.bits :=
  match o with
  | .imm v => immValue w v
  | .mem m => s.mem.readW w (effectiveAddress op m s)

/-- `StoreOperand(form, w, v)` (41_load_store.md R160). -/
def storeOperand (w : Width) (op : Byte) (m : Mode) (v : BitVec w.bits) (s : State) : State :=
  { s with mem := s.mem.writeW s.cfg.byteOrder w (effectiveAddress op m s) v }

/-- Writes C where a read-modify-write operation changes it. -/
def State.setCarry (c : Option Bool) (s : State) : State :=
  match c with
  | some b => s.setFlag .c b
  | none => s

/-- A read-modify-write operation at any width: the old C and the old value to the new value and C. -/
abbrev Modify := (n : Nat) → Bool → BitVec n → Modified n

/-- `RMW(form, f)` (43_shift_incdec.md R200): one read, one write, at width `wm`. -/
def modifyMemory (f : Modify) (op : Byte) (m : Mode) (s : State) : State :=
  let ea := effectiveAddress op m s
  let r := f s.wm.bits (s.flag .c) (s.mem.readW s.wm ea)
  ({ s with mem := s.mem.writeW s.cfg.byteOrder s.wm ea r.value }.setCarry r.carry).setNZ r.value

/-- The accumulator form of a read-modify-write operation (43_shift_incdec.md R200). -/
def modifyAcc (f : Modify) (s : State) : State :=
  let r := f s.wm.bits (s.flag .c) (s.acc s.wm)
  ((s.setAcc s.wm r.value).setCarry r.carry).setNZ r.value

end Sys2Proof.Machine
end

