-- ==== Sys2Proof/Machine/Alu.lean ====
section
/-! DEFINITION. Arithmetic, logic, compare and bit test: ADC AND BIT CMP CPX CPY EOR ORA SBC TRB TSB (42_alu.md): the
shared operations, then one meaning per row of the opcode table. -/

namespace Sys2Proof.Machine

/-- Writes a result and its C, V, N and Z (42_alu.md R181, R189). -/
def setArith (w : Width) (r : Arith w.bits) (s : State) : State :=
  (((s.setFlag .c r.carry).setFlag .v r.overflow).setAcc w r.value).setNZ r.value

/-- The end of a decimal ADC or SBC on valid operands: V is unspecified (42_alu.md R192, U7). -/
def setDecimal (w : Width) (r : BitVec w.bits × Bool) (s : State) : State :=
  (((s.setFlag .c r.2).setFlagFree .v).setAcc w r.1).setNZ r.1

/-- The end of a decimal ADC or SBC when an operand is not valid BCD: the result and all four flags are unspecified
(42_alu.md R192, U6). -/
def setUnspecified (w : Width) (s : State) : State :=
  ((((s.drawWord.2.setAcc w (s.drawWord.1.setWidth w.bits)).setFlagFree .n).setFlagFree .v).setFlagFree
    .z).setFlagFree .c

/-- `DecimalAdd` or `DecimalSub` as a total function: result, C and V (42_alu.md R192). -/
abbrev DecimalFn := (w : Width) → BitVec w.bits → BitVec w.bits → Bool → BitVec w.bits × Bool × Bool

/-- The BCD definition of `DecimalAdd` or `DecimalSub` on valid operands: result and C (42_alu.md R192). -/
abbrev DecimalDef := (w : Width) → BitVec w.bits → BitVec w.bits → Bool → BitVec w.bits × Bool

/-- A platform's function as a refinement of the definition `g`: on valid BCD the result and C are the definition's,
and everything the definition leaves unspecified is what `f` gives (42_alu.md R192). -/
def refineDecimal (g : DecimalDef) (f : DecimalFn) (w : Width) (a m : BitVec w.bits) (c : Bool) : Arith w.bits :=
  let r := f w a m c
  if decimalValid w a m then { value := (g w a m c).1, carry := (g w a m c).2, overflow := r.2.2 }
  else { value := r.1, carry := r.2.1, overflow := r.2.2 }

/-- ADC or SBC with `P.D = 1`, for the definition `g` and the platform's function `f` (42_alu.md R192; 00_scope.md
R5). -/
def decimalOp (g : DecimalDef) (f : DecimalFn) (w : Width) (a m : BitVec w.bits) (s : State) : State :=
  match s.cfg.decimal with
  | .definition => if decimalValid w a m then setDecimal w (g w a m (s.flag .c)) s else setUnspecified w s
  | .platform => setArith w (refineDecimal g f w a m (s.flag .c)) s

/-- ADC (42_alu.md R181, R192). -/
def adc (op : Byte) (o : DataOperand) (s : State) : State :=
  let a := s.acc s.wm
  let m := loadOperand s.wm op o s
  if s.flag .d then decimalOp decimalAdd Config.decimalAdd s.wm a m s
  else setArith s.wm (binaryAdd a m (s.flag .c)) s

/-- SBC (42_alu.md R189, R192). -/
def sbc (op : Byte) (o : DataOperand) (s : State) : State :=
  let a := s.acc s.wm
  let m := loadOperand s.wm op o s
  if s.flag .d then decimalOp decimalSub Config.decimalSub s.wm a m s
  else setArith s.wm (binarySub a m (s.flag .c)) s

/-- AND, EOR and ORA with their bitwise operation (42_alu.md R182, R187, R188). -/
def logic (f : (n : Nat) → BitVec n → BitVec n → BitVec n) (op : Byte) (o : DataOperand) (s : State) : State :=
  let r := f s.wm.bits (s.acc s.wm) (loadOperand s.wm op o s)
  (s.setAcc s.wm r).setNZ r

/-- The bitwise AND of AND (42_alu.md R182). -/
def andOf (n : Nat) (a m : BitVec n) : BitVec n := a &&& m

/-- The bitwise exclusive OR of EOR (42_alu.md R187). -/
def eorOf (n : Nat) (a m : BitVec n) : BitVec n := a ^^^ m

/-- The bitwise OR of ORA (42_alu.md R188). -/
def oraOf (n : Nat) (a m : BitVec n) : BitVec n := a ||| m

/-- The flags of a compare: C = 1 means no borrow (42_alu.md R184). -/
def setCompare {n : Nat} (r m : BitVec n) (s : State) : State :=
  (s.setFlag .c (decide (m.toNat ≤ r.toNat))).setNZ (r - m)

/-- CMP (42_alu.md R184). -/
def cmp (op : Byte) (o : DataOperand) (s : State) : State := setCompare (s.acc s.wm) (loadOperand s.wm op o s) s

/-- CPX (42_alu.md R185). -/
def cpx (op : Byte) (o : DataOperand) (s : State) : State := setCompare (s.xLow s.wx) (loadOperand s.wx op o s) s

/-- CPY (42_alu.md R186). -/
def cpy (op : Byte) (o : DataOperand) (s : State) : State := setCompare (s.yLow s.wx) (loadOperand s.wx op o s) s

/-- Z of the bit tests: the AND of accumulator and operand is zero (42_alu.md R183, R190, R191). -/
def testZ {n : Nat} (a m : BitVec n) (s : State) : State := s.setFlag .z (decide (a &&& m = 0))

/-- N and V of BIT: the operand's two top bits (42_alu.md R183). -/
def topBits {n : Nat} (m : BitVec n) (s : State) : State :=
  (s.setFlag .n m.msb).setFlag .v (m.getLsbD (n - 2))

/-- BIT with a memory operand (42_alu.md R183). -/
def bitMemory (op : Byte) (m : Mode) (s : State) : State :=
  let v := loadOperand s.wm op (.mem m) s
  topBits v (testZ (s.acc s.wm) v s)

/-- BIT `#` (42_alu.md R183): N and V change under `FLAG_PROFILE = Source` only. -/
def bitImmediate (op : Byte) (v : Imm) (s : State) : State :=
  let m := loadOperand s.wm op (.imm v) s
  match s.cfg.flagProfile with
  | .source => topBits m (testZ (s.acc s.wm) m s)
  | .hardware => testZ (s.acc s.wm) m s

/-- N and V after TRB and TSB: unspecified under `FLAG_PROFILE = Source`, unchanged under `Hardware`
(42_alu.md R190, R191). -/
def testedFlags (s : State) : State :=
  match s.cfg.flagProfile with
  | .source => (s.setFlagFree .n).setFlagFree .v
  | .hardware => s

/-- TRB and TSB with the value they write back (42_alu.md R190, R191): Z from the value read. -/
def testAndModify (f : (n : Nat) → BitVec n → BitVec n → BitVec n) (op : Byte) (m : Mode) (s : State) : State :=
  let ea := effectiveAddress op m s
  let a := s.acc s.wm
  let v := s.mem.readW s.wm ea
  testedFlags (testZ a v { s with mem := s.mem.writeW s.cfg.byteOrder s.wm ea (f s.wm.bits a v) })

/-- What TRB writes back: the memory bits set in the accumulator are cleared (42_alu.md R190). -/
def resetBits (n : Nat) (a m : BitVec n) : BitVec n := m &&& ~~~a

/-- What TSB writes back: the memory bits set in the accumulator are set (42_alu.md R191). -/
def setBits (n : Nat) (a m : BitVec n) : BitVec n := m ||| a

/-- `ADC (zp,X)` (`$61`, R181). -/
def execAdcZpXInd (zp : Byte) (s : State) : Result :=
  .next ((adc 0x61 (.mem (.zpXInd zp)) s).advance 2)

/-- `ADC ds,S` (`$63`, R181). -/
def execAdcSr (ds : Byte) (s : State) : Result :=
  .next ((adc 0x63 (.mem (.sr ds)) s).advance 2)

/-- `ADC zp` (`$65`, R181). -/
def execAdcZp (zp : Byte) (s : State) : Result :=
  .next ((adc 0x65 (.mem (.zp zp)) s).advance 2)

/-- `ADC [zp]` (`$67`, R181). -/
def execAdcZpIndLong (zp : Byte) (s : State) : Result :=
  .next ((adc 0x67 (.mem (.zpIndLong zp)) s).advance 2)

/-- `ADC #` (`$69`, R181). -/
def execAdcImm (v : Imm) (s : State) : Result :=
  .next ((adc 0x69 (.imm v) s).advance (1 + v.length))

/-- `ADC abs` (`$6D`, R181). -/
def execAdcAbs (abs : Word) (s : State) : Result :=
  .next ((adc 0x6D (.mem (.abs abs)) s).advance 3)

/-- `ADC long` (`$6F`, R181). -/
def execAdcLong (long : Addr) (s : State) : Result :=
  .next ((adc 0x6F (.mem (.long long)) s).advance 4)

/-- `ADC (zp),Y` (`$71`, R181). -/
def execAdcZpIndY (zp : Byte) (s : State) : Result :=
  .next ((adc 0x71 (.mem (.zpIndY zp)) s).advance 2)

/-- `ADC (zp)` (`$72`, R181). -/
def execAdcZpInd (zp : Byte) (s : State) : Result :=
  .next ((adc 0x72 (.mem (.zpInd zp)) s).advance 2)

/-- `ADC (ds,S),Y` (`$73`, R181). -/
def execAdcSrIndY (ds : Byte) (s : State) : Result :=
  .next ((adc 0x73 (.mem (.srIndY ds)) s).advance 2)

/-- `ADC zp,X` (`$75`, R181). -/
def execAdcZpX (zp : Byte) (s : State) : Result :=
  .next ((adc 0x75 (.mem (.zpX zp)) s).advance 2)

/-- `ADC [zp],Y` (`$77`, R181). -/
def execAdcZpIndLongY (zp : Byte) (s : State) : Result :=
  .next ((adc 0x77 (.mem (.zpIndLongY zp)) s).advance 2)

/-- `ADC abs,Y` (`$79`, R181). -/
def execAdcAbsY (abs : Word) (s : State) : Result :=
  .next ((adc 0x79 (.mem (.absY abs)) s).advance 3)

/-- `ADC abs,X` (`$7D`, R181). -/
def execAdcAbsX (abs : Word) (s : State) : Result :=
  .next ((adc 0x7D (.mem (.absX abs)) s).advance 3)

/-- `ADC long,X` (`$7F`, R181). -/
def execAdcLongX (long : Addr) (s : State) : Result :=
  .next ((adc 0x7F (.mem (.longX long)) s).advance 4)

/-- `AND (zp,X)` (`$21`, R182). -/
def execAndZpXInd (zp : Byte) (s : State) : Result :=
  .next ((logic andOf 0x21 (.mem (.zpXInd zp)) s).advance 2)

/-- `AND ds,S` (`$23`, R182). -/
def execAndSr (ds : Byte) (s : State) : Result :=
  .next ((logic andOf 0x23 (.mem (.sr ds)) s).advance 2)

/-- `AND zp` (`$25`, R182). -/
def execAndZp (zp : Byte) (s : State) : Result :=
  .next ((logic andOf 0x25 (.mem (.zp zp)) s).advance 2)

/-- `AND [zp]` (`$27`, R182). -/
def execAndZpIndLong (zp : Byte) (s : State) : Result :=
  .next ((logic andOf 0x27 (.mem (.zpIndLong zp)) s).advance 2)

/-- `AND #` (`$29`, R182). -/
def execAndImm (v : Imm) (s : State) : Result :=
  .next ((logic andOf 0x29 (.imm v) s).advance (1 + v.length))

/-- `AND abs` (`$2D`, R182). -/
def execAndAbs (abs : Word) (s : State) : Result :=
  .next ((logic andOf 0x2D (.mem (.abs abs)) s).advance 3)

/-- `AND long` (`$2F`, R182). -/
def execAndLong (long : Addr) (s : State) : Result :=
  .next ((logic andOf 0x2F (.mem (.long long)) s).advance 4)

/-- `AND (zp),Y` (`$31`, R182). -/
def execAndZpIndY (zp : Byte) (s : State) : Result :=
  .next ((logic andOf 0x31 (.mem (.zpIndY zp)) s).advance 2)

/-- `AND (zp)` (`$32`, R182). -/
def execAndZpInd (zp : Byte) (s : State) : Result :=
  .next ((logic andOf 0x32 (.mem (.zpInd zp)) s).advance 2)

/-- `AND (ds,S),Y` (`$33`, R182). -/
def execAndSrIndY (ds : Byte) (s : State) : Result :=
  .next ((logic andOf 0x33 (.mem (.srIndY ds)) s).advance 2)

/-- `AND zp,X` (`$35`, R182). -/
def execAndZpX (zp : Byte) (s : State) : Result :=
  .next ((logic andOf 0x35 (.mem (.zpX zp)) s).advance 2)

/-- `AND [zp],Y` (`$37`, R182). -/
def execAndZpIndLongY (zp : Byte) (s : State) : Result :=
  .next ((logic andOf 0x37 (.mem (.zpIndLongY zp)) s).advance 2)

/-- `AND abs,Y` (`$39`, R182). -/
def execAndAbsY (abs : Word) (s : State) : Result :=
  .next ((logic andOf 0x39 (.mem (.absY abs)) s).advance 3)

/-- `AND abs,X` (`$3D`, R182). -/
def execAndAbsX (abs : Word) (s : State) : Result :=
  .next ((logic andOf 0x3D (.mem (.absX abs)) s).advance 3)

/-- `AND long,X` (`$3F`, R182). -/
def execAndLongX (long : Addr) (s : State) : Result :=
  .next ((logic andOf 0x3F (.mem (.longX long)) s).advance 4)

/-- `BIT zp` (`$24`, R183). -/
def execBitZp (zp : Byte) (s : State) : Result :=
  .next ((bitMemory 0x24 (.zp zp) s).advance 2)

/-- `BIT abs` (`$2C`, R183). -/
def execBitAbs (abs : Word) (s : State) : Result :=
  .next ((bitMemory 0x2C (.abs abs) s).advance 3)

/-- `BIT zp,X` (`$34`, R183). -/
def execBitZpX (zp : Byte) (s : State) : Result :=
  .next ((bitMemory 0x34 (.zpX zp) s).advance 2)

/-- `BIT abs,X` (`$3C`, R183). -/
def execBitAbsX (abs : Word) (s : State) : Result :=
  .next ((bitMemory 0x3C (.absX abs) s).advance 3)

/-- `BIT #` (`$89`, R183). -/
def execBitImm (v : Imm) (s : State) : Result :=
  .next ((bitImmediate 0x89 v s).advance (1 + v.length))

/-- `CMP (zp,X)` (`$C1`, R184). -/
def execCmpZpXInd (zp : Byte) (s : State) : Result :=
  .next ((cmp 0xC1 (.mem (.zpXInd zp)) s).advance 2)

/-- `CMP ds,S` (`$C3`, R184). -/
def execCmpSr (ds : Byte) (s : State) : Result :=
  .next ((cmp 0xC3 (.mem (.sr ds)) s).advance 2)

/-- `CMP zp` (`$C5`, R184). -/
def execCmpZp (zp : Byte) (s : State) : Result :=
  .next ((cmp 0xC5 (.mem (.zp zp)) s).advance 2)

/-- `CMP [zp]` (`$C7`, R184). -/
def execCmpZpIndLong (zp : Byte) (s : State) : Result :=
  .next ((cmp 0xC7 (.mem (.zpIndLong zp)) s).advance 2)

/-- `CMP #` (`$C9`, R184). -/
def execCmpImm (v : Imm) (s : State) : Result :=
  .next ((cmp 0xC9 (.imm v) s).advance (1 + v.length))

/-- `CMP abs` (`$CD`, R184). -/
def execCmpAbs (abs : Word) (s : State) : Result :=
  .next ((cmp 0xCD (.mem (.abs abs)) s).advance 3)

/-- `CMP long` (`$CF`, R184). -/
def execCmpLong (long : Addr) (s : State) : Result :=
  .next ((cmp 0xCF (.mem (.long long)) s).advance 4)

/-- `CMP (zp),Y` (`$D1`, R184). -/
def execCmpZpIndY (zp : Byte) (s : State) : Result :=
  .next ((cmp 0xD1 (.mem (.zpIndY zp)) s).advance 2)

/-- `CMP (zp)` (`$D2`, R184). -/
def execCmpZpInd (zp : Byte) (s : State) : Result :=
  .next ((cmp 0xD2 (.mem (.zpInd zp)) s).advance 2)

/-- `CMP (ds,S),Y` (`$D3`, R184). -/
def execCmpSrIndY (ds : Byte) (s : State) : Result :=
  .next ((cmp 0xD3 (.mem (.srIndY ds)) s).advance 2)

/-- `CMP zp,X` (`$D5`, R184). -/
def execCmpZpX (zp : Byte) (s : State) : Result :=
  .next ((cmp 0xD5 (.mem (.zpX zp)) s).advance 2)

/-- `CMP [zp],Y` (`$D7`, R184). -/
def execCmpZpIndLongY (zp : Byte) (s : State) : Result :=
  .next ((cmp 0xD7 (.mem (.zpIndLongY zp)) s).advance 2)

/-- `CMP abs,Y` (`$D9`, R184). -/
def execCmpAbsY (abs : Word) (s : State) : Result :=
  .next ((cmp 0xD9 (.mem (.absY abs)) s).advance 3)

/-- `CMP abs,X` (`$DD`, R184). -/
def execCmpAbsX (abs : Word) (s : State) : Result :=
  .next ((cmp 0xDD (.mem (.absX abs)) s).advance 3)

/-- `CMP long,X` (`$DF`, R184). -/
def execCmpLongX (long : Addr) (s : State) : Result :=
  .next ((cmp 0xDF (.mem (.longX long)) s).advance 4)

/-- `CPX #` (`$E0`, R185). -/
def execCpxImm (v : Imm) (s : State) : Result :=
  .next ((cpx 0xE0 (.imm v) s).advance (1 + v.length))

/-- `CPX zp` (`$E4`, R185). -/
def execCpxZp (zp : Byte) (s : State) : Result :=
  .next ((cpx 0xE4 (.mem (.zp zp)) s).advance 2)

/-- `CPX abs` (`$EC`, R185). -/
def execCpxAbs (abs : Word) (s : State) : Result :=
  .next ((cpx 0xEC (.mem (.abs abs)) s).advance 3)

/-- `CPY #` (`$C0`, R186). -/
def execCpyImm (v : Imm) (s : State) : Result :=
  .next ((cpy 0xC0 (.imm v) s).advance (1 + v.length))

/-- `CPY zp` (`$C4`, R186). -/
def execCpyZp (zp : Byte) (s : State) : Result :=
  .next ((cpy 0xC4 (.mem (.zp zp)) s).advance 2)

/-- `CPY abs` (`$CC`, R186). -/
def execCpyAbs (abs : Word) (s : State) : Result :=
  .next ((cpy 0xCC (.mem (.abs abs)) s).advance 3)

/-- `EOR (zp,X)` (`$41`, R187). -/
def execEorZpXInd (zp : Byte) (s : State) : Result :=
  .next ((logic eorOf 0x41 (.mem (.zpXInd zp)) s).advance 2)

/-- `EOR ds,S` (`$43`, R187). -/
def execEorSr (ds : Byte) (s : State) : Result :=
  .next ((logic eorOf 0x43 (.mem (.sr ds)) s).advance 2)

/-- `EOR zp` (`$45`, R187). -/
def execEorZp (zp : Byte) (s : State) : Result :=
  .next ((logic eorOf 0x45 (.mem (.zp zp)) s).advance 2)

/-- `EOR [zp]` (`$47`, R187). -/
def execEorZpIndLong (zp : Byte) (s : State) : Result :=
  .next ((logic eorOf 0x47 (.mem (.zpIndLong zp)) s).advance 2)

/-- `EOR #` (`$49`, R187). -/
def execEorImm (v : Imm) (s : State) : Result :=
  .next ((logic eorOf 0x49 (.imm v) s).advance (1 + v.length))

/-- `EOR abs` (`$4D`, R187). -/
def execEorAbs (abs : Word) (s : State) : Result :=
  .next ((logic eorOf 0x4D (.mem (.abs abs)) s).advance 3)

/-- `EOR long` (`$4F`, R187). -/
def execEorLong (long : Addr) (s : State) : Result :=
  .next ((logic eorOf 0x4F (.mem (.long long)) s).advance 4)

/-- `EOR (zp),Y` (`$51`, R187). -/
def execEorZpIndY (zp : Byte) (s : State) : Result :=
  .next ((logic eorOf 0x51 (.mem (.zpIndY zp)) s).advance 2)

/-- `EOR (zp)` (`$52`, R187). -/
def execEorZpInd (zp : Byte) (s : State) : Result :=
  .next ((logic eorOf 0x52 (.mem (.zpInd zp)) s).advance 2)

/-- `EOR (ds,S),Y` (`$53`, R187). -/
def execEorSrIndY (ds : Byte) (s : State) : Result :=
  .next ((logic eorOf 0x53 (.mem (.srIndY ds)) s).advance 2)

/-- `EOR zp,X` (`$55`, R187). -/
def execEorZpX (zp : Byte) (s : State) : Result :=
  .next ((logic eorOf 0x55 (.mem (.zpX zp)) s).advance 2)

/-- `EOR [zp],Y` (`$57`, R187). -/
def execEorZpIndLongY (zp : Byte) (s : State) : Result :=
  .next ((logic eorOf 0x57 (.mem (.zpIndLongY zp)) s).advance 2)

/-- `EOR abs,Y` (`$59`, R187). -/
def execEorAbsY (abs : Word) (s : State) : Result :=
  .next ((logic eorOf 0x59 (.mem (.absY abs)) s).advance 3)

/-- `EOR abs,X` (`$5D`, R187). -/
def execEorAbsX (abs : Word) (s : State) : Result :=
  .next ((logic eorOf 0x5D (.mem (.absX abs)) s).advance 3)

/-- `EOR long,X` (`$5F`, R187). -/
def execEorLongX (long : Addr) (s : State) : Result :=
  .next ((logic eorOf 0x5F (.mem (.longX long)) s).advance 4)

/-- `ORA (zp,X)` (`$01`, R188). -/
def execOraZpXInd (zp : Byte) (s : State) : Result :=
  .next ((logic oraOf 0x01 (.mem (.zpXInd zp)) s).advance 2)

/-- `ORA ds,S` (`$03`, R188). -/
def execOraSr (ds : Byte) (s : State) : Result :=
  .next ((logic oraOf 0x03 (.mem (.sr ds)) s).advance 2)

/-- `ORA zp` (`$05`, R188). -/
def execOraZp (zp : Byte) (s : State) : Result :=
  .next ((logic oraOf 0x05 (.mem (.zp zp)) s).advance 2)

/-- `ORA [zp]` (`$07`, R188). -/
def execOraZpIndLong (zp : Byte) (s : State) : Result :=
  .next ((logic oraOf 0x07 (.mem (.zpIndLong zp)) s).advance 2)

/-- `ORA #` (`$09`, R188). -/
def execOraImm (v : Imm) (s : State) : Result :=
  .next ((logic oraOf 0x09 (.imm v) s).advance (1 + v.length))

/-- `ORA abs` (`$0D`, R188). -/
def execOraAbs (abs : Word) (s : State) : Result :=
  .next ((logic oraOf 0x0D (.mem (.abs abs)) s).advance 3)

/-- `ORA long` (`$0F`, R188). -/
def execOraLong (long : Addr) (s : State) : Result :=
  .next ((logic oraOf 0x0F (.mem (.long long)) s).advance 4)

/-- `ORA (zp),Y` (`$11`, R188). -/
def execOraZpIndY (zp : Byte) (s : State) : Result :=
  .next ((logic oraOf 0x11 (.mem (.zpIndY zp)) s).advance 2)

/-- `ORA (zp)` (`$12`, R188). -/
def execOraZpInd (zp : Byte) (s : State) : Result :=
  .next ((logic oraOf 0x12 (.mem (.zpInd zp)) s).advance 2)

/-- `ORA (ds,S),Y` (`$13`, R188). -/
def execOraSrIndY (ds : Byte) (s : State) : Result :=
  .next ((logic oraOf 0x13 (.mem (.srIndY ds)) s).advance 2)

/-- `ORA zp,X` (`$15`, R188). -/
def execOraZpX (zp : Byte) (s : State) : Result :=
  .next ((logic oraOf 0x15 (.mem (.zpX zp)) s).advance 2)

/-- `ORA [zp],Y` (`$17`, R188). -/
def execOraZpIndLongY (zp : Byte) (s : State) : Result :=
  .next ((logic oraOf 0x17 (.mem (.zpIndLongY zp)) s).advance 2)

/-- `ORA abs,Y` (`$19`, R188). -/
def execOraAbsY (abs : Word) (s : State) : Result :=
  .next ((logic oraOf 0x19 (.mem (.absY abs)) s).advance 3)

/-- `ORA abs,X` (`$1D`, R188). -/
def execOraAbsX (abs : Word) (s : State) : Result :=
  .next ((logic oraOf 0x1D (.mem (.absX abs)) s).advance 3)

/-- `ORA long,X` (`$1F`, R188). -/
def execOraLongX (long : Addr) (s : State) : Result :=
  .next ((logic oraOf 0x1F (.mem (.longX long)) s).advance 4)

/-- `SBC (zp,X)` (`$E1`, R189). -/
def execSbcZpXInd (zp : Byte) (s : State) : Result :=
  .next ((sbc 0xE1 (.mem (.zpXInd zp)) s).advance 2)

/-- `SBC ds,S` (`$E3`, R189). -/
def execSbcSr (ds : Byte) (s : State) : Result :=
  .next ((sbc 0xE3 (.mem (.sr ds)) s).advance 2)

/-- `SBC zp` (`$E5`, R189). -/
def execSbcZp (zp : Byte) (s : State) : Result :=
  .next ((sbc 0xE5 (.mem (.zp zp)) s).advance 2)

/-- `SBC [zp]` (`$E7`, R189). -/
def execSbcZpIndLong (zp : Byte) (s : State) : Result :=
  .next ((sbc 0xE7 (.mem (.zpIndLong zp)) s).advance 2)

/-- `SBC #` (`$E9`, R189). -/
def execSbcImm (v : Imm) (s : State) : Result :=
  .next ((sbc 0xE9 (.imm v) s).advance (1 + v.length))

/-- `SBC abs` (`$ED`, R189). -/
def execSbcAbs (abs : Word) (s : State) : Result :=
  .next ((sbc 0xED (.mem (.abs abs)) s).advance 3)

/-- `SBC long` (`$EF`, R189). -/
def execSbcLong (long : Addr) (s : State) : Result :=
  .next ((sbc 0xEF (.mem (.long long)) s).advance 4)

/-- `SBC (zp),Y` (`$F1`, R189). -/
def execSbcZpIndY (zp : Byte) (s : State) : Result :=
  .next ((sbc 0xF1 (.mem (.zpIndY zp)) s).advance 2)

/-- `SBC (zp)` (`$F2`, R189). -/
def execSbcZpInd (zp : Byte) (s : State) : Result :=
  .next ((sbc 0xF2 (.mem (.zpInd zp)) s).advance 2)

/-- `SBC (ds,S),Y` (`$F3`, R189). -/
def execSbcSrIndY (ds : Byte) (s : State) : Result :=
  .next ((sbc 0xF3 (.mem (.srIndY ds)) s).advance 2)

/-- `SBC zp,X` (`$F5`, R189). -/
def execSbcZpX (zp : Byte) (s : State) : Result :=
  .next ((sbc 0xF5 (.mem (.zpX zp)) s).advance 2)

/-- `SBC [zp],Y` (`$F7`, R189). -/
def execSbcZpIndLongY (zp : Byte) (s : State) : Result :=
  .next ((sbc 0xF7 (.mem (.zpIndLongY zp)) s).advance 2)

/-- `SBC abs,Y` (`$F9`, R189). -/
def execSbcAbsY (abs : Word) (s : State) : Result :=
  .next ((sbc 0xF9 (.mem (.absY abs)) s).advance 3)

/-- `SBC abs,X` (`$FD`, R189). -/
def execSbcAbsX (abs : Word) (s : State) : Result :=
  .next ((sbc 0xFD (.mem (.absX abs)) s).advance 3)

/-- `SBC long,X` (`$FF`, R189). -/
def execSbcLongX (long : Addr) (s : State) : Result :=
  .next ((sbc 0xFF (.mem (.longX long)) s).advance 4)

/-- `TRB zp` (`$14`, R190). -/
def execTrbZp (zp : Byte) (s : State) : Result :=
  .next ((testAndModify resetBits 0x14 (.zp zp) s).advance 2)

/-- `TRB abs` (`$1C`, R190). -/
def execTrbAbs (abs : Word) (s : State) : Result :=
  .next ((testAndModify resetBits 0x1C (.abs abs) s).advance 3)

/-- `TSB zp` (`$04`, R191). -/
def execTsbZp (zp : Byte) (s : State) : Result :=
  .next ((testAndModify setBits 0x04 (.zp zp) s).advance 2)

/-- `TSB abs` (`$0C`, R191). -/
def execTsbAbs (abs : Word) (s : State) : Result :=
  .next ((testAndModify setBits 0x0C (.abs abs) s).advance 3)

end Sys2Proof.Machine
end

