-- ==== Sys2Proof/Machine/BlockMove.lean ====
section
/-! DEFINITION. Block moves: MVN MVP (48_block_move.md): the shared operations, then one meaning per row of the opcode
table. -/

namespace Sys2Proof.Machine

/-- `zext_16((v + delta) mod 2^w)` (48_block_move.md R320). -/
def movedIndex (w : Width) (delta v : Word) : Word := ((v + delta).setWidth w.bits).setWidth 16

/-- `BlockStep(delta)` (48_block_move.md R320): one byte moved; the instruction repeats until `A` wraps to `$FFFF`. -/
def blockStep (delta : Word) (dst src : Byte) (s : State) : State :=
  { s with
    mem := s.mem.write (addr dst s.y) (s.mem.read (addr src s.x))
    x := movedIndex s.wx delta s.x
    y := movedIndex s.wx delta s.y
    a := s.a - 1
    dbr := dst
    pc := if s.a - 1 = 0xFFFF then s.pc + 3 else s.pc }

/-- `MVN blk` (`$54`, R321). -/
def execMvn (dst : Byte) (src : Byte) (s : State) : Result :=
  .next (blockStep 1 dst src s)

/-- `MVP blk` (`$44`, R322). -/
def execMvp (dst : Byte) (src : Byte) (s : State) : Result :=
  .next (blockStep (-1) dst src s)

end Sys2Proof.Machine
end

