-- ==== Sys2Proof/Machine/Control.lean ====
section
/-! DEFINITION. Branches, jumps, calls and returns: BCC BCS BEQ BMI BNE BPL BRA BVC BVS JMP JSR RTL RTS
(44_branch_jump.md): the shared operations, then one meaning per row of the opcode table. -/

namespace Sys2Proof.Machine

/-- `BranchTarget(disp)` from the address of the next instruction, modulo `2^16` (44_branch_jump.md R220). -/
def branchTarget (pcn disp : Word) : Word := pcn + disp

/-- A `rel` branch: taken to the target, else to the next instruction (44_branch_jump.md R220, R221 to R230). -/
def branchIf (taken : Bool) (rel : Byte) (s : State) : State :=
  { s with pc := if taken then branchTarget (s.pc + 2) (sext16 rel) else s.pc + 2 }

/-- `PC <- target` (00_scope.md R10). -/
def jump (target : Word) (s : State) : State := { s with pc := target }

/-- `PC` and `PBR <- target` (00_scope.md R10). -/
def jumpLong (target : Addr) (s : State) : State := { s with pc := offset target, pbr := bank target }

/-- What JSR pushes: the address of its own last byte, two after its opcode (44_branch_jump.md R232). -/
def pushReturn (s : State) : State := s.push16 (s.pc + 2)

/-- JSR `abs` (44_branch_jump.md R232). -/
def callAbs (w : Word) (s : State) : State := jump w (pushReturn s)

/-- JSR `(abs,X)` (44_branch_jump.md R232): the pointer is read after the push. -/
def callTable (w : Word) (s : State) : State :=
  jump ((pushReturn s).mem.read16 (tableEA w s)) (pushReturn s)

/-- JSR `long` (44_branch_jump.md R233). -/
def callLong (a : Addr) (s : State) : State := jumpLong a ((s.push8 s.pbr).push16 (s.pc + 3))

/-- RTS (44_branch_jump.md R235). -/
def returnNear (s : State) : State := jump (s.pull16.1 + 1) s.pull16.2

/-- RTL (44_branch_jump.md R234): the increment does not carry into `PBR`. -/
def returnLong (s : State) : State :=
  { s.pull16.2.pull8.2 with pc := s.pull16.1 + 1, pbr := s.pull16.2.pull8.1 }

/-- `BCC rel` (`$90`, R221). -/
def execBcc (rel : Byte) (s : State) : Result :=
  .next (branchIf (!s.flag .c) rel s)

/-- `BCS rel` (`$B0`, R222). -/
def execBcs (rel : Byte) (s : State) : Result :=
  .next (branchIf (s.flag .c) rel s)

/-- `BEQ rel` (`$F0`, R223). -/
def execBeq (rel : Byte) (s : State) : Result :=
  .next (branchIf (s.flag .z) rel s)

/-- `BMI rel` (`$30`, R224). -/
def execBmi (rel : Byte) (s : State) : Result :=
  .next (branchIf (s.flag .n) rel s)

/-- `BNE rel` (`$D0`, R225). -/
def execBne (rel : Byte) (s : State) : Result :=
  .next (branchIf (!s.flag .z) rel s)

/-- `BPL rel` (`$10`, R226). -/
def execBpl (rel : Byte) (s : State) : Result :=
  .next (branchIf (!s.flag .n) rel s)

/-- `BRA rel` (`$80`, R227). -/
def execBraRel (rel : Byte) (s : State) : Result :=
  .next (branchIf true rel s)

/-- `BRA rell` (`$82`, R228). -/
def execBraRell (rell : Word) (s : State) : Result :=
  .next (jump (branchTarget (s.pc + 3) rell) s)

/-- `BVC rel` (`$50`, R229). -/
def execBvc (rel : Byte) (s : State) : Result :=
  .next (branchIf (!s.flag .v) rel s)

/-- `BVS rel` (`$70`, R230). -/
def execBvs (rel : Byte) (s : State) : Result :=
  .next (branchIf (s.flag .v) rel s)

/-- `JMP abs` (`$4C`, R231). -/
def execJmpAbs (abs : Word) (s : State) : Result :=
  .next (jump abs s)

/-- `JMP (abs)` (`$6C`, R231). -/
def execJmpAbsInd (abs : Word) (s : State) : Result :=
  .next (jump (s.mem.read16 (pointerEA abs)) s)

/-- `JMP (abs,X)` (`$7C`, R231). -/
def execJmpAbsXInd (abs : Word) (s : State) : Result :=
  .next (jump (s.mem.read16 (tableEA abs s)) s)

/-- `JSR abs` (`$20`, R232). -/
def execJsrAbs (abs : Word) (s : State) : Result :=
  .next (callAbs abs s)

/-- `JSR (abs,X)` (`$FC`, R232). -/
def execJsrAbsXInd (abs : Word) (s : State) : Result :=
  .next (callTable abs s)

/-- `JSR long` (`$22`, R233). -/
def execJsrLong (long : Addr) (s : State) : Result :=
  .next (callLong long s)

/-- `RTL` (`$6B`, R234). -/
def execRtl (s : State) : Result :=
  .next (returnLong s)

/-- `RTS` (`$60`, R235). -/
def execRts (s : State) : Result :=
  .next (returnNear s)

/-- `JMP long` (`$5C`, R236). -/
def execJmpLong (long : Addr) (s : State) : Result :=
  .next (jumpLong long s)

/-- `JMP [abs]` (`$DC`, R236). -/
def execJmpAbsIndLong (abs : Word) (s : State) : Result :=
  .next (jumpLong (s.mem.read24 (pointerEA abs)) s)

end Sys2Proof.Machine
end

