-- ==== Sys2Proof/Machine/LoadStore.lean ====
section
/-! DEFINITION. Loads and stores: LDA LDX LDY STA STX STY STZ (41_load_store.md): the shared operations, then one
meaning per row of the opcode table. -/

namespace Sys2Proof.Machine

/-- LDA (41_load_store.md R161): at 8 bits `AH` is unchanged. -/
def loadA (op : Byte) (o : DataOperand) (s : State) : State :=
  let v := loadOperand s.wm op o s
  (s.setAcc s.wm v).setNZ v

/-- LDX (41_load_store.md R162). -/
def loadX (op : Byte) (o : DataOperand) (s : State) : State :=
  let v := loadOperand s.wx op o s
  (s.setX v).setNZ v

/-- LDY (41_load_store.md R163). -/
def loadY (op : Byte) (o : DataOperand) (s : State) : State :=
  let v := loadOperand s.wx op o s
  (s.setY v).setNZ v

/-- STA (41_load_store.md R164). -/
def storeA (op : Byte) (m : Mode) (s : State) : State := storeOperand s.wm op m (s.acc s.wm) s

/-- STX (41_load_store.md R165). -/
def storeX (op : Byte) (m : Mode) (s : State) : State := storeOperand s.wx op m (s.xLow s.wx) s

/-- STY (41_load_store.md R166). -/
def storeY (op : Byte) (m : Mode) (s : State) : State := storeOperand s.wx op m (s.yLow s.wx) s

/-- STZ (41_load_store.md R167). -/
def storeZ (op : Byte) (m : Mode) (s : State) : State := storeOperand s.wm op m 0 s

/-- `LDA (zp,X)` (`$A1`, R161). -/
def execLdaZpXInd (zp : Byte) (s : State) : Result :=
  .next ((loadA 0xA1 (.mem (.zpXInd zp)) s).advance 2)

/-- `LDA ds,S` (`$A3`, R161). -/
def execLdaSr (ds : Byte) (s : State) : Result :=
  .next ((loadA 0xA3 (.mem (.sr ds)) s).advance 2)

/-- `LDA zp` (`$A5`, R161). -/
def execLdaZp (zp : Byte) (s : State) : Result :=
  .next ((loadA 0xA5 (.mem (.zp zp)) s).advance 2)

/-- `LDA [zp]` (`$A7`, R161). -/
def execLdaZpIndLong (zp : Byte) (s : State) : Result :=
  .next ((loadA 0xA7 (.mem (.zpIndLong zp)) s).advance 2)

/-- `LDA #` (`$A9`, R161). -/
def execLdaImm (v : Imm) (s : State) : Result :=
  .next ((loadA 0xA9 (.imm v) s).advance (1 + v.length))

/-- `LDA abs` (`$AD`, R161). -/
def execLdaAbs (abs : Word) (s : State) : Result :=
  .next ((loadA 0xAD (.mem (.abs abs)) s).advance 3)

/-- `LDA long` (`$AF`, R161). -/
def execLdaLong (long : Addr) (s : State) : Result :=
  .next ((loadA 0xAF (.mem (.long long)) s).advance 4)

/-- `LDA (zp),Y` (`$B1`, R161). -/
def execLdaZpIndY (zp : Byte) (s : State) : Result :=
  .next ((loadA 0xB1 (.mem (.zpIndY zp)) s).advance 2)

/-- `LDA (zp)` (`$B2`, R161). -/
def execLdaZpInd (zp : Byte) (s : State) : Result :=
  .next ((loadA 0xB2 (.mem (.zpInd zp)) s).advance 2)

/-- `LDA (ds,S),Y` (`$B3`, R161). -/
def execLdaSrIndY (ds : Byte) (s : State) : Result :=
  .next ((loadA 0xB3 (.mem (.srIndY ds)) s).advance 2)

/-- `LDA zp,X` (`$B5`, R161). -/
def execLdaZpX (zp : Byte) (s : State) : Result :=
  .next ((loadA 0xB5 (.mem (.zpX zp)) s).advance 2)

/-- `LDA [zp],Y` (`$B7`, R161). -/
def execLdaZpIndLongY (zp : Byte) (s : State) : Result :=
  .next ((loadA 0xB7 (.mem (.zpIndLongY zp)) s).advance 2)

/-- `LDA abs,Y` (`$B9`, R161). -/
def execLdaAbsY (abs : Word) (s : State) : Result :=
  .next ((loadA 0xB9 (.mem (.absY abs)) s).advance 3)

/-- `LDA abs,X` (`$BD`, R161). -/
def execLdaAbsX (abs : Word) (s : State) : Result :=
  .next ((loadA 0xBD (.mem (.absX abs)) s).advance 3)

/-- `LDA long,X` (`$BF`, R161). -/
def execLdaLongX (long : Addr) (s : State) : Result :=
  .next ((loadA 0xBF (.mem (.longX long)) s).advance 4)

/-- `LDX #` (`$A2`, R162). -/
def execLdxImm (v : Imm) (s : State) : Result :=
  .next ((loadX 0xA2 (.imm v) s).advance (1 + v.length))

/-- `LDX zp` (`$A6`, R162). -/
def execLdxZp (zp : Byte) (s : State) : Result :=
  .next ((loadX 0xA6 (.mem (.zp zp)) s).advance 2)

/-- `LDX abs` (`$AE`, R162). -/
def execLdxAbs (abs : Word) (s : State) : Result :=
  .next ((loadX 0xAE (.mem (.abs abs)) s).advance 3)

/-- `LDX zp,Y` (`$B6`, R162). -/
def execLdxZpY (zp : Byte) (s : State) : Result :=
  .next ((loadX 0xB6 (.mem (.zpY zp)) s).advance 2)

/-- `LDX abs,Y` (`$BE`, R162). -/
def execLdxAbsY (abs : Word) (s : State) : Result :=
  .next ((loadX 0xBE (.mem (.absY abs)) s).advance 3)

/-- `LDY #` (`$A0`, R163). -/
def execLdyImm (v : Imm) (s : State) : Result :=
  .next ((loadY 0xA0 (.imm v) s).advance (1 + v.length))

/-- `LDY zp` (`$A4`, R163). -/
def execLdyZp (zp : Byte) (s : State) : Result :=
  .next ((loadY 0xA4 (.mem (.zp zp)) s).advance 2)

/-- `LDY abs` (`$AC`, R163). -/
def execLdyAbs (abs : Word) (s : State) : Result :=
  .next ((loadY 0xAC (.mem (.abs abs)) s).advance 3)

/-- `LDY zp,X` (`$B4`, R163). -/
def execLdyZpX (zp : Byte) (s : State) : Result :=
  .next ((loadY 0xB4 (.mem (.zpX zp)) s).advance 2)

/-- `LDY abs,X` (`$BC`, R163). -/
def execLdyAbsX (abs : Word) (s : State) : Result :=
  .next ((loadY 0xBC (.mem (.absX abs)) s).advance 3)

/-- `STA (zp,X)` (`$81`, R164). -/
def execStaZpXInd (zp : Byte) (s : State) : Result :=
  .next ((storeA 0x81 (.zpXInd zp) s).advance 2)

/-- `STA ds,S` (`$83`, R164). -/
def execStaSr (ds : Byte) (s : State) : Result :=
  .next ((storeA 0x83 (.sr ds) s).advance 2)

/-- `STA zp` (`$85`, R164). -/
def execStaZp (zp : Byte) (s : State) : Result :=
  .next ((storeA 0x85 (.zp zp) s).advance 2)

/-- `STA [zp]` (`$87`, R164). -/
def execStaZpIndLong (zp : Byte) (s : State) : Result :=
  .next ((storeA 0x87 (.zpIndLong zp) s).advance 2)

/-- `STA abs` (`$8D`, R164). -/
def execStaAbs (abs : Word) (s : State) : Result :=
  .next ((storeA 0x8D (.abs abs) s).advance 3)

/-- `STA long` (`$8F`, R164). -/
def execStaLong (long : Addr) (s : State) : Result :=
  .next ((storeA 0x8F (.long long) s).advance 4)

/-- `STA (zp),Y` (`$91`, R164). -/
def execStaZpIndY (zp : Byte) (s : State) : Result :=
  .next ((storeA 0x91 (.zpIndY zp) s).advance 2)

/-- `STA (zp)` (`$92`, R164). -/
def execStaZpInd (zp : Byte) (s : State) : Result :=
  .next ((storeA 0x92 (.zpInd zp) s).advance 2)

/-- `STA (ds,S),Y` (`$93`, R164). -/
def execStaSrIndY (ds : Byte) (s : State) : Result :=
  .next ((storeA 0x93 (.srIndY ds) s).advance 2)

/-- `STA zp,X` (`$95`, R164). -/
def execStaZpX (zp : Byte) (s : State) : Result :=
  .next ((storeA 0x95 (.zpX zp) s).advance 2)

/-- `STA [zp],Y` (`$97`, R164). -/
def execStaZpIndLongY (zp : Byte) (s : State) : Result :=
  .next ((storeA 0x97 (.zpIndLongY zp) s).advance 2)

/-- `STA abs,Y` (`$99`, R164). -/
def execStaAbsY (abs : Word) (s : State) : Result :=
  .next ((storeA 0x99 (.absY abs) s).advance 3)

/-- `STA abs,X` (`$9D`, R164). -/
def execStaAbsX (abs : Word) (s : State) : Result :=
  .next ((storeA 0x9D (.absX abs) s).advance 3)

/-- `STA long,X` (`$9F`, R164). -/
def execStaLongX (long : Addr) (s : State) : Result :=
  .next ((storeA 0x9F (.longX long) s).advance 4)

/-- `STX zp` (`$86`, R165). -/
def execStxZp (zp : Byte) (s : State) : Result :=
  .next ((storeX 0x86 (.zp zp) s).advance 2)

/-- `STX abs` (`$8E`, R165). -/
def execStxAbs (abs : Word) (s : State) : Result :=
  .next ((storeX 0x8E (.abs abs) s).advance 3)

/-- `STX zp,Y` (`$96`, R165). -/
def execStxZpY (zp : Byte) (s : State) : Result :=
  .next ((storeX 0x96 (.zpY zp) s).advance 2)

/-- `STY zp` (`$84`, R166). -/
def execStyZp (zp : Byte) (s : State) : Result :=
  .next ((storeY 0x84 (.zp zp) s).advance 2)

/-- `STY abs` (`$8C`, R166). -/
def execStyAbs (abs : Word) (s : State) : Result :=
  .next ((storeY 0x8C (.abs abs) s).advance 3)

/-- `STY zp,X` (`$94`, R166). -/
def execStyZpX (zp : Byte) (s : State) : Result :=
  .next ((storeY 0x94 (.zpX zp) s).advance 2)

/-- `STZ zp` (`$64`, R167). -/
def execStzZp (zp : Byte) (s : State) : Result :=
  .next ((storeZ 0x64 (.zp zp) s).advance 2)

/-- `STZ zp,X` (`$74`, R167). -/
def execStzZpX (zp : Byte) (s : State) : Result :=
  .next ((storeZ 0x74 (.zpX zp) s).advance 2)

/-- `STZ abs` (`$9C`, R167). -/
def execStzAbs (abs : Word) (s : State) : Result :=
  .next ((storeZ 0x9C (.abs abs) s).advance 3)

/-- `STZ abs,X` (`$9E`, R167). -/
def execStzAbsX (abs : Word) (s : State) : Result :=
  .next ((storeZ 0x9E (.absX abs) s).advance 3)

end Sys2Proof.Machine
end

