-- ==== Sys2Proof/Machine/Shift.lean ====
section
/-! DEFINITION. Shifts, rotates, increments and decrements: ASL DEC DEX DEY INC INX INY LSR ROL ROR
(43_shift_incdec.md): the shared operations, then one meaning per row of the opcode table. -/

namespace Sys2Proof.Machine

/-- INX, DEX: the index register at width `wx` (43_shift_incdec.md R203, R206). -/
def stepX (f : Modify) (s : State) : State :=
  let r := (f s.wx.bits (s.flag .c) (s.xLow s.wx)).value
  (s.setX r).setNZ r

/-- INY, DEY (43_shift_incdec.md R204, R207). -/
def stepY (f : Modify) (s : State) : State :=
  let r := (f s.wx.bits (s.flag .c) (s.yLow s.wx)).value
  (s.setY r).setNZ r

/-- `ASL zp` (`$06`, R201). -/
def execAslZp (zp : Byte) (s : State) : Result :=
  .next ((modifyMemory aslOf 0x06 (.zp zp) s).advance 2)

/-- `ASL acc` (`$0A`, R201). -/
def execAslAcc (s : State) : Result :=
  .next ((modifyAcc aslOf s).advance 1)

/-- `ASL abs` (`$0E`, R201). -/
def execAslAbs (abs : Word) (s : State) : Result :=
  .next ((modifyMemory aslOf 0x0E (.abs abs) s).advance 3)

/-- `ASL zp,X` (`$16`, R201). -/
def execAslZpX (zp : Byte) (s : State) : Result :=
  .next ((modifyMemory aslOf 0x16 (.zpX zp) s).advance 2)

/-- `ASL abs,X` (`$1E`, R201). -/
def execAslAbsX (abs : Word) (s : State) : Result :=
  .next ((modifyMemory aslOf 0x1E (.absX abs) s).advance 3)

/-- `DEC acc` (`$3A`, R202). -/
def execDecAcc (s : State) : Result :=
  .next ((modifyAcc decOf s).advance 1)

/-- `DEC zp` (`$C6`, R202). -/
def execDecZp (zp : Byte) (s : State) : Result :=
  .next ((modifyMemory decOf 0xC6 (.zp zp) s).advance 2)

/-- `DEC abs` (`$CE`, R202). -/
def execDecAbs (abs : Word) (s : State) : Result :=
  .next ((modifyMemory decOf 0xCE (.abs abs) s).advance 3)

/-- `DEC zp,X` (`$D6`, R202). -/
def execDecZpX (zp : Byte) (s : State) : Result :=
  .next ((modifyMemory decOf 0xD6 (.zpX zp) s).advance 2)

/-- `DEC abs,X` (`$DE`, R202). -/
def execDecAbsX (abs : Word) (s : State) : Result :=
  .next ((modifyMemory decOf 0xDE (.absX abs) s).advance 3)

/-- `DEX` (`$CA`, R203). -/
def execDex (s : State) : Result :=
  .next ((stepX decOf s).advance 1)

/-- `DEY` (`$88`, R204). -/
def execDey (s : State) : Result :=
  .next ((stepY decOf s).advance 1)

/-- `INC acc` (`$1A`, R205). -/
def execIncAcc (s : State) : Result :=
  .next ((modifyAcc incOf s).advance 1)

/-- `INC zp` (`$E6`, R205). -/
def execIncZp (zp : Byte) (s : State) : Result :=
  .next ((modifyMemory incOf 0xE6 (.zp zp) s).advance 2)

/-- `INC abs` (`$EE`, R205). -/
def execIncAbs (abs : Word) (s : State) : Result :=
  .next ((modifyMemory incOf 0xEE (.abs abs) s).advance 3)

/-- `INC zp,X` (`$F6`, R205). -/
def execIncZpX (zp : Byte) (s : State) : Result :=
  .next ((modifyMemory incOf 0xF6 (.zpX zp) s).advance 2)

/-- `INC abs,X` (`$FE`, R205). -/
def execIncAbsX (abs : Word) (s : State) : Result :=
  .next ((modifyMemory incOf 0xFE (.absX abs) s).advance 3)

/-- `INX` (`$E8`, R206). -/
def execInx (s : State) : Result :=
  .next ((stepX incOf s).advance 1)

/-- `INY` (`$C8`, R207). -/
def execIny (s : State) : Result :=
  .next ((stepY incOf s).advance 1)

/-- `LSR zp` (`$46`, R208). -/
def execLsrZp (zp : Byte) (s : State) : Result :=
  .next ((modifyMemory lsrOf 0x46 (.zp zp) s).advance 2)

/-- `LSR acc` (`$4A`, R208). -/
def execLsrAcc (s : State) : Result :=
  .next ((modifyAcc lsrOf s).advance 1)

/-- `LSR abs` (`$4E`, R208). -/
def execLsrAbs (abs : Word) (s : State) : Result :=
  .next ((modifyMemory lsrOf 0x4E (.abs abs) s).advance 3)

/-- `LSR zp,X` (`$56`, R208). -/
def execLsrZpX (zp : Byte) (s : State) : Result :=
  .next ((modifyMemory lsrOf 0x56 (.zpX zp) s).advance 2)

/-- `LSR abs,X` (`$5E`, R208). -/
def execLsrAbsX (abs : Word) (s : State) : Result :=
  .next ((modifyMemory lsrOf 0x5E (.absX abs) s).advance 3)

/-- `ROL zp` (`$26`, R209). -/
def execRolZp (zp : Byte) (s : State) : Result :=
  .next ((modifyMemory rolOf 0x26 (.zp zp) s).advance 2)

/-- `ROL acc` (`$2A`, R209). -/
def execRolAcc (s : State) : Result :=
  .next ((modifyAcc rolOf s).advance 1)

/-- `ROL abs` (`$2E`, R209). -/
def execRolAbs (abs : Word) (s : State) : Result :=
  .next ((modifyMemory rolOf 0x2E (.abs abs) s).advance 3)

/-- `ROL zp,X` (`$36`, R209). -/
def execRolZpX (zp : Byte) (s : State) : Result :=
  .next ((modifyMemory rolOf 0x36 (.zpX zp) s).advance 2)

/-- `ROL abs,X` (`$3E`, R209). -/
def execRolAbsX (abs : Word) (s : State) : Result :=
  .next ((modifyMemory rolOf 0x3E (.absX abs) s).advance 3)

/-- `ROR zp` (`$66`, R210). -/
def execRorZp (zp : Byte) (s : State) : Result :=
  .next ((modifyMemory rorOf 0x66 (.zp zp) s).advance 2)

/-- `ROR acc` (`$6A`, R210). -/
def execRorAcc (s : State) : Result :=
  .next ((modifyAcc rorOf s).advance 1)

/-- `ROR abs` (`$6E`, R210). -/
def execRorAbs (abs : Word) (s : State) : Result :=
  .next ((modifyMemory rorOf 0x6E (.abs abs) s).advance 3)

/-- `ROR zp,X` (`$76`, R210). -/
def execRorZpX (zp : Byte) (s : State) : Result :=
  .next ((modifyMemory rorOf 0x76 (.zpX zp) s).advance 2)

/-- `ROR abs,X` (`$7E`, R210). -/
def execRorAbsX (abs : Word) (s : State) : Result :=
  .next ((modifyMemory rorOf 0x7E (.absX abs) s).advance 3)

end Sys2Proof.Machine
end

