-- ==== Sys2Proof/Machine/Stack.lean ====
section
/-! DEFINITION. Pushes and pulls: PEA PHA PHB PHD PHK PHP PHX PHY PLA PLB PLD PLP PLX PLY (45_stack.md): the shared
operations, then one meaning per row of the opcode table. -/

namespace Sys2Proof.Machine

/-- N and Z of the instructions that set them under `FLAG_PROFILE = Hardware` only (10_state.md R36). -/
def profileNZ {n : Nat} (v : BitVec n) (s : State) : State :=
  match s.cfg.flagProfile with
  | .source => s
  | .hardware => s.setNZ v

/-- PEI (45_stack.md R252): the word at the direct-page location is pushed. -/
def pushIndirect (op zp : Byte) (s : State) : State := s.push16 (s.mem.read16 (directEA op zp 0 s))

/-- PER (45_stack.md R253): the address of the next instruction plus the operand. -/
def pushRelative (rell : Word) (s : State) : State := s.push16 (branchTarget (s.pc + 3) rell)

/-- PLA (45_stack.md R261). -/
def pullA (s : State) : State :=
  let r := s.pullW s.wm
  (r.2.setAcc s.wm r.1).setNZ r.1

/-- PLX (45_stack.md R265). -/
def pullX (s : State) : State :=
  let r := s.pullW s.wx
  (r.2.setX r.1).setNZ r.1

/-- PLY (45_stack.md R266). -/
def pullY (s : State) : State :=
  let r := s.pullW s.wx
  (r.2.setY r.1).setNZ r.1

/-- PLB (45_stack.md R262). -/
def pullDbr (s : State) : State := profileNZ s.pull8.1 { s.pull8.2 with dbr := s.pull8.1 }

/-- PLD (45_stack.md R263). -/
def pullD (s : State) : State := profileNZ s.pull16.1 { s.pull16.2 with d := s.pull16.1 }

/-- `PEA #$xxxx` (`$F4`, R251). -/
def execPeaImm (imm16 : Word) (s : State) : Result :=
  .next ((s.push16 imm16).advance 3)

/-- `PEA (zp)` (`$D4`, R252). -/
def execPeaZpInd (zp : Byte) (s : State) : Result :=
  .next ((pushIndirect 0xD4 zp s).advance 2)

/-- `PEA rell` (`$62`, R253). -/
def execPeaRell (rell : Word) (s : State) : Result :=
  .next ((pushRelative rell s).advance 3)

/-- `PHA` (`$48`, R254). -/
def execPha (s : State) : Result :=
  .next ((s.pushW s.wm (s.acc s.wm)).advance 1)

/-- `PHB` (`$8B`, R255). -/
def execPhb (s : State) : Result :=
  .next ((s.push8 s.dbr).advance 1)

/-- `PHD` (`$0B`, R256). -/
def execPhd (s : State) : Result :=
  .next ((s.push16 s.d).advance 1)

/-- `PHK` (`$4B`, R257). -/
def execPhk (s : State) : Result :=
  .next ((s.push8 s.pbr).advance 1)

/-- `PHP` (`$08`, R258). -/
def execPhp (s : State) : Result :=
  .next ((s.push8 s.p).advance 1)

/-- `PHX` (`$DA`, R259). -/
def execPhx (s : State) : Result :=
  .next ((s.pushW s.wx (s.xLow s.wx)).advance 1)

/-- `PHY` (`$5A`, R260). -/
def execPhy (s : State) : Result :=
  .next ((s.pushW s.wx (s.yLow s.wx)).advance 1)

/-- `PLA` (`$68`, R261). -/
def execPla (s : State) : Result :=
  .next ((pullA s).advance 1)

/-- `PLB` (`$AB`, R262). -/
def execPlb (s : State) : Result :=
  .next ((pullDbr s).advance 1)

/-- `PLD` (`$2B`, R263). -/
def execPld (s : State) : Result :=
  .next ((pullD s).advance 1)

/-- `PLP` (`$28`, R264). -/
def execPlp (s : State) : Result :=
  .next ((s.pull8.2.writeP s.pull8.1).advance 1)

/-- `PLX` (`$FA`, R265). -/
def execPlx (s : State) : Result :=
  .next ((pullX s).advance 1)

/-- `PLY` (`$7A`, R266). -/
def execPly (s : State) : Result :=
  .next ((pullY s).advance 1)

end Sys2Proof.Machine
end

