-- ==== Sys2Proof/Machine/Status.lean ====
section
/-! DEFINITION. Flag and status instructions: CLC CLD CLI CLV REP SEC SED SEI SEP XCE (47_flags_status.md): the shared
operations, then one meaning per row of the opcode table. -/

namespace Sys2Proof.Machine

/-- XCE (47_flags_status.md R309): C and E exchanged; when the new E is 1, M and X read 1, the index high bytes are
zero and `SH` is `$01`. -/
def exchangeCE (s : State) : State :=
  let t := { s.setFlag .c s.e with e := s.flag .c }
  if t.e then
    { ((t.setFlag .m true).setFlag .x true).clearIndexHigh with sp := word 1 (lo t.sp) }
  else t

/-- `CLC` (`$18`, R300). -/
def execClc (s : State) : Result :=
  .next ((s.setFlag .c false).advance 1)

/-- `CLD` (`$D8`, R301). -/
def execCld (s : State) : Result :=
  .next ((s.setFlag .d false).advance 1)

/-- `CLI` (`$58`, R302). -/
def execCli (s : State) : Result :=
  .next ((s.setFlag .i false).advance 1)

/-- `CLV` (`$B8`, R303). -/
def execClv (s : State) : Result :=
  .next ((s.setFlag .v false).advance 1)

/-- `REP #$xx` (`$C2`, R304). -/
def execRep (imm8 : Byte) (s : State) : Result :=
  .next ((s.writeP (s.p &&& ~~~imm8)).advance 2)

/-- `SEC` (`$38`, R305). -/
def execSec (s : State) : Result :=
  .next ((s.setFlag .c true).advance 1)

/-- `SED` (`$F8`, R306). -/
def execSed (s : State) : Result :=
  .next ((s.setFlag .d true).advance 1)

/-- `SEI` (`$78`, R307). -/
def execSei (s : State) : Result :=
  .next ((s.setFlag .i true).advance 1)

/-- `SEP #$xx` (`$E2`, R308). -/
def execSep (imm8 : Byte) (s : State) : Result :=
  .next ((s.writeP (s.p ||| imm8)).advance 2)

/-- `XCE` (`$FB`, R309). -/
def execXce (s : State) : Result :=
  .next ((exchangeCE s).advance 1)

end Sys2Proof.Machine
end

