-- ==== Sys2Proof/Machine/System.lean ====
section
/-! DEFINITION. Software traps, return from a trap, idle and reserved: BRK COP NOP RTI STP WAI WDM (49_system.md): the
shared operations, then one meaning per row of the opcode table. -/

namespace Sys2Proof.Machine

/-- The length of WDM in bytes (49_system.md R336). -/
def wdmBytes (q : Params) : Nat :=
  match q.wdmLength with
  | .one => 1
  | .two => 2

/-- `BRK` (`$00`, R330). -/
def execBrk (_sig : Byte) (s : State) : Result :=
  .next (s.trapEntry .brk (s.pc + 2))

/-- `COP #$xx` (`$02`, R331). -/
def execCop (_imm8 : Byte) (s : State) : Result :=
  .next (s.trapEntry .cop (s.pc + 2))

/-- `NOP` (`$EA`, R332). -/
def execNop (s : State) : Result :=
  .next (s.advance 1)

/-- `RTI` (`$40`, R333). -/
def execRti (s : State) : Result :=
  .next (s.returnFromTrap)

/-- `STP` (`$DB`, R334). -/
def execStp (s : State) : Result :=
  .next (({ s with run := .stopped }).advance 1)

/-- `WAI` (`$CB`, R335). -/
def execWai (s : State) : Result :=
  .next (({ s with run := .waiting }).advance 1)

/-- `WDM` (`$42`, R336). -/
def execWdm (s : State) : Result :=
  .next (s.advance (wdmBytes s.cfg))

end Sys2Proof.Machine
end

