-- ==== Sys2Proof/Machine/Transfer.lean ====
section
/-! DEFINITION. Register transfers and exchanges: TAX TAY TCD TCS TDC TSC TSX TXA TXS TXY TYA TYX XBA
(46_transfer.md): the shared operations, then one meaning per row of the opcode table. -/

namespace Sys2Proof.Machine

/-- A transfer into `X` at width `wx` (46_transfer.md R280, R281, R287). -/
def transferToX (v : Word) (s : State) : State :=
  let r := v.setWidth s.wx.bits
  (s.setX r).setNZ r

/-- A transfer into `Y` at width `wx` (46_transfer.md R280, R282). -/
def transferToY (v : Word) (s : State) : State :=
  let r := v.setWidth s.wx.bits
  (s.setY r).setNZ r

/-- TXY (46_transfer.md R290): the whole register, flags at width `wx`. -/
def transferXY (s : State) : State := { s with y := s.x }.setNZ (s.xLow s.wx)

/-- TYX (46_transfer.md R292). -/
def transferYX (s : State) : State := { s with x := s.y }.setNZ (s.yLow s.wx)

/-- A transfer into the accumulator at width `wm` (46_transfer.md R280, R288, R291). -/
def transferToA (v : Word) (s : State) : State :=
  let r := v.setWidth s.wm.bits
  (s.setAcc s.wm r).setNZ r

/-- A transfer into the whole 16-bit accumulator (46_transfer.md R285, R286). -/
def transferToC (v : Word) (s : State) : State := { s with a := v }.setNZ v

/-- A transfer into `S`: `SL` in emulation mode, `S` in native mode; no flag (46_transfer.md R284, R289). -/
def transferToS (v : Word) (s : State) : State :=
  { s with sp := if s.e then word (hi s.sp) (lo v) else v }

/-- TCD (46_transfer.md R283). -/
def transferToD (s : State) : State := profileNZ s.a { s with d := s.a }

/-- XBA (46_transfer.md R293). -/
def exchangeHalves (s : State) : State :=
  profileNZ (hi s.a) { s with a := word (lo s.a) (hi s.a) }

/-- `TAX` (`$AA`, R281). -/
def execTax (s : State) : Result :=
  .next ((transferToX s.a s).advance 1)

/-- `TAY` (`$A8`, R282). -/
def execTay (s : State) : Result :=
  .next ((transferToY s.a s).advance 1)

/-- `TCD` (`$5B`, R283). -/
def execTcd (s : State) : Result :=
  .next ((transferToD s).advance 1)

/-- `TCS` (`$1B`, R284). -/
def execTcs (s : State) : Result :=
  .next ((transferToS s.a s).advance 1)

/-- `TDC` (`$7B`, R285). -/
def execTdc (s : State) : Result :=
  .next ((transferToC s.d s).advance 1)

/-- `TSC` (`$3B`, R286). -/
def execTsc (s : State) : Result :=
  .next ((transferToC s.sp s).advance 1)

/-- `TSX` (`$BA`, R287). -/
def execTsx (s : State) : Result :=
  .next ((transferToX s.sp s).advance 1)

/-- `TXA` (`$8A`, R288). -/
def execTxa (s : State) : Result :=
  .next ((transferToA s.x s).advance 1)

/-- `TXS` (`$9A`, R289). -/
def execTxs (s : State) : Result :=
  .next ((transferToS s.x s).advance 1)

/-- `TXY` (`$9B`, R290). -/
def execTxy (s : State) : Result :=
  .next ((transferXY s).advance 1)

/-- `TYA` (`$98`, R291). -/
def execTya (s : State) : Result :=
  .next ((transferToA s.y s).advance 1)

/-- `TYX` (`$BB`, R292). -/
def execTyx (s : State) : Result :=
  .next ((transferYX s).advance 1)

/-- `XBA` (`$EB`, R293). -/
def execXba (s : State) : Result :=
  .next ((exchangeHalves s).advance 1)

end Sys2Proof.Machine
end

