-- ==== Sys2Proof/Machine/Dispatch.lean ====
section
/-! DEFINITION. Every instruction to its meaning. -/

namespace Sys2Proof.Machine

/-- What an instruction does (files 41 to 49 of spec/). -/
def exec (i : Instr) (s : State) : Host.Outcome State Fault Refusal :=
  match i with
  | .brk sig => Sys2Proof.Machine.execBrk sig s
  | .oraZpXInd zp => Sys2Proof.Machine.execOraZpXInd zp s
  | .cop imm8 => Sys2Proof.Machine.execCop imm8 s
  | .oraSr ds => Sys2Proof.Machine.execOraSr ds s
  | .tsbZp zp => Sys2Proof.Machine.execTsbZp zp s
  | .oraZp zp => Sys2Proof.Machine.execOraZp zp s
  | .aslZp zp => Sys2Proof.Machine.execAslZp zp s
  | .oraZpIndLong zp => Sys2Proof.Machine.execOraZpIndLong zp s
  | .oraImm v => Sys2Proof.Machine.execOraImm v s
  | .tsbAbs abs => Sys2Proof.Machine.execTsbAbs abs s
  | .oraAbs abs => Sys2Proof.Machine.execOraAbs abs s
  | .aslAbs abs => Sys2Proof.Machine.execAslAbs abs s
  | .oraLong long => Sys2Proof.Machine.execOraLong long s
  | .bpl rel => Sys2Proof.Machine.execBpl rel s
  | .oraZpIndY zp => Sys2Proof.Machine.execOraZpIndY zp s
  | .oraZpInd zp => Sys2Proof.Machine.execOraZpInd zp s
  | .oraSrIndY ds => Sys2Proof.Machine.execOraSrIndY ds s
  | .trbZp zp => Sys2Proof.Machine.execTrbZp zp s
  | .oraZpX zp => Sys2Proof.Machine.execOraZpX zp s
  | .aslZpX zp => Sys2Proof.Machine.execAslZpX zp s
  | .oraZpIndLongY zp => Sys2Proof.Machine.execOraZpIndLongY zp s
  | .oraAbsY abs => Sys2Proof.Machine.execOraAbsY abs s
  | .trbAbs abs => Sys2Proof.Machine.execTrbAbs abs s
  | .oraAbsX abs => Sys2Proof.Machine.execOraAbsX abs s
  | .aslAbsX abs => Sys2Proof.Machine.execAslAbsX abs s
  | .oraLongX long => Sys2Proof.Machine.execOraLongX long s
  | .jsrAbs abs => Sys2Proof.Machine.execJsrAbs abs s
  | .andZpXInd zp => Sys2Proof.Machine.execAndZpXInd zp s
  | .jsrLong long => Sys2Proof.Machine.execJsrLong long s
  | .andSr ds => Sys2Proof.Machine.execAndSr ds s
  | .bitZp zp => Sys2Proof.Machine.execBitZp zp s
  | .andZp zp => Sys2Proof.Machine.execAndZp zp s
  | .rolZp zp => Sys2Proof.Machine.execRolZp zp s
  | .andZpIndLong zp => Sys2Proof.Machine.execAndZpIndLong zp s
  | .andImm v => Sys2Proof.Machine.execAndImm v s
  | .bitAbs abs => Sys2Proof.Machine.execBitAbs abs s
  | .andAbs abs => Sys2Proof.Machine.execAndAbs abs s
  | .rolAbs abs => Sys2Proof.Machine.execRolAbs abs s
  | .andLong long => Sys2Proof.Machine.execAndLong long s
  | .bmi rel => Sys2Proof.Machine.execBmi rel s
  | .andZpIndY zp => Sys2Proof.Machine.execAndZpIndY zp s
  | .andZpInd zp => Sys2Proof.Machine.execAndZpInd zp s
  | .andSrIndY ds => Sys2Proof.Machine.execAndSrIndY ds s
  | .bitZpX zp => Sys2Proof.Machine.execBitZpX zp s
  | .andZpX zp => Sys2Proof.Machine.execAndZpX zp s
  | .rolZpX zp => Sys2Proof.Machine.execRolZpX zp s
  | .andZpIndLongY zp => Sys2Proof.Machine.execAndZpIndLongY zp s
  | .andAbsY abs => Sys2Proof.Machine.execAndAbsY abs s
  | .bitAbsX abs => Sys2Proof.Machine.execBitAbsX abs s
  | .andAbsX abs => Sys2Proof.Machine.execAndAbsX abs s
  | .rolAbsX abs => Sys2Proof.Machine.execRolAbsX abs s
  | .andLongX long => Sys2Proof.Machine.execAndLongX long s
  | .eorZpXInd zp => Sys2Proof.Machine.execEorZpXInd zp s
  | .eorSr ds => Sys2Proof.Machine.execEorSr ds s
  | .mvp dst src => Sys2Proof.Machine.execMvp dst src s
  | .eorZp zp => Sys2Proof.Machine.execEorZp zp s
  | .lsrZp zp => Sys2Proof.Machine.execLsrZp zp s
  | .eorZpIndLong zp => Sys2Proof.Machine.execEorZpIndLong zp s
  | .eorImm v => Sys2Proof.Machine.execEorImm v s
  | .jmpAbs abs => Sys2Proof.Machine.execJmpAbs abs s
  | .eorAbs abs => Sys2Proof.Machine.execEorAbs abs s
  | .lsrAbs abs => Sys2Proof.Machine.execLsrAbs abs s
  | .eorLong long => Sys2Proof.Machine.execEorLong long s
  | .bvc rel => Sys2Proof.Machine.execBvc rel s
  | .eorZpIndY zp => Sys2Proof.Machine.execEorZpIndY zp s
  | .eorZpInd zp => Sys2Proof.Machine.execEorZpInd zp s
  | .eorSrIndY ds => Sys2Proof.Machine.execEorSrIndY ds s
  | .mvn dst src => Sys2Proof.Machine.execMvn dst src s
  | .eorZpX zp => Sys2Proof.Machine.execEorZpX zp s
  | .lsrZpX zp => Sys2Proof.Machine.execLsrZpX zp s
  | .eorZpIndLongY zp => Sys2Proof.Machine.execEorZpIndLongY zp s
  | .eorAbsY abs => Sys2Proof.Machine.execEorAbsY abs s
  | .jmpLong long => Sys2Proof.Machine.execJmpLong long s
  | .eorAbsX abs => Sys2Proof.Machine.execEorAbsX abs s
  | .lsrAbsX abs => Sys2Proof.Machine.execLsrAbsX abs s
  | .eorLongX long => Sys2Proof.Machine.execEorLongX long s
  | .adcZpXInd zp => Sys2Proof.Machine.execAdcZpXInd zp s
  | .peaRell rell => Sys2Proof.Machine.execPeaRell rell s
  | .adcSr ds => Sys2Proof.Machine.execAdcSr ds s
  | .stzZp zp => Sys2Proof.Machine.execStzZp zp s
  | .adcZp zp => Sys2Proof.Machine.execAdcZp zp s
  | .rorZp zp => Sys2Proof.Machine.execRorZp zp s
  | .adcZpIndLong zp => Sys2Proof.Machine.execAdcZpIndLong zp s
  | .adcImm v => Sys2Proof.Machine.execAdcImm v s
  | .jmpAbsInd abs => Sys2Proof.Machine.execJmpAbsInd abs s
  | .adcAbs abs => Sys2Proof.Machine.execAdcAbs abs s
  | .rorAbs abs => Sys2Proof.Machine.execRorAbs abs s
  | .adcLong long => Sys2Proof.Machine.execAdcLong long s
  | .bvs rel => Sys2Proof.Machine.execBvs rel s
  | .adcZpIndY zp => Sys2Proof.Machine.execAdcZpIndY zp s
  | .adcZpInd zp => Sys2Proof.Machine.execAdcZpInd zp s
  | .adcSrIndY ds => Sys2Proof.Machine.execAdcSrIndY ds s
  | .stzZpX zp => Sys2Proof.Machine.execStzZpX zp s
  | .adcZpX zp => Sys2Proof.Machine.execAdcZpX zp s
  | .rorZpX zp => Sys2Proof.Machine.execRorZpX zp s
  | .adcZpIndLongY zp => Sys2Proof.Machine.execAdcZpIndLongY zp s
  | .adcAbsY abs => Sys2Proof.Machine.execAdcAbsY abs s
  | .jmpAbsXInd abs => Sys2Proof.Machine.execJmpAbsXInd abs s
  | .adcAbsX abs => Sys2Proof.Machine.execAdcAbsX abs s
  | .rorAbsX abs => Sys2Proof.Machine.execRorAbsX abs s
  | .adcLongX long => Sys2Proof.Machine.execAdcLongX long s
  | .braRel rel => Sys2Proof.Machine.execBraRel rel s
  | .staZpXInd zp => Sys2Proof.Machine.execStaZpXInd zp s
  | .braRell rell => Sys2Proof.Machine.execBraRell rell s
  | .staSr ds => Sys2Proof.Machine.execStaSr ds s
  | .styZp zp => Sys2Proof.Machine.execStyZp zp s
  | .staZp zp => Sys2Proof.Machine.execStaZp zp s
  | .stxZp zp => Sys2Proof.Machine.execStxZp zp s
  | .staZpIndLong zp => Sys2Proof.Machine.execStaZpIndLong zp s
  | .bitImm v => Sys2Proof.Machine.execBitImm v s
  | .styAbs abs => Sys2Proof.Machine.execStyAbs abs s
  | .staAbs abs => Sys2Proof.Machine.execStaAbs abs s
  | .stxAbs abs => Sys2Proof.Machine.execStxAbs abs s
  | .staLong long => Sys2Proof.Machine.execStaLong long s
  | .bcc rel => Sys2Proof.Machine.execBcc rel s
  | .staZpIndY zp => Sys2Proof.Machine.execStaZpIndY zp s
  | .staZpInd zp => Sys2Proof.Machine.execStaZpInd zp s
  | .staSrIndY ds => Sys2Proof.Machine.execStaSrIndY ds s
  | .styZpX zp => Sys2Proof.Machine.execStyZpX zp s
  | .staZpX zp => Sys2Proof.Machine.execStaZpX zp s
  | .stxZpY zp => Sys2Proof.Machine.execStxZpY zp s
  | .staZpIndLongY zp => Sys2Proof.Machine.execStaZpIndLongY zp s
  | .staAbsY abs => Sys2Proof.Machine.execStaAbsY abs s
  | .stzAbs abs => Sys2Proof.Machine.execStzAbs abs s
  | .staAbsX abs => Sys2Proof.Machine.execStaAbsX abs s
  | .stzAbsX abs => Sys2Proof.Machine.execStzAbsX abs s
  | .staLongX long => Sys2Proof.Machine.execStaLongX long s
  | .ldyImm v => Sys2Proof.Machine.execLdyImm v s
  | .ldaZpXInd zp => Sys2Proof.Machine.execLdaZpXInd zp s
  | .ldxImm v => Sys2Proof.Machine.execLdxImm v s
  | .ldaSr ds => Sys2Proof.Machine.execLdaSr ds s
  | .ldyZp zp => Sys2Proof.Machine.execLdyZp zp s
  | .ldaZp zp => Sys2Proof.Machine.execLdaZp zp s
  | .ldxZp zp => Sys2Proof.Machine.execLdxZp zp s
  | .ldaZpIndLong zp => Sys2Proof.Machine.execLdaZpIndLong zp s
  | .ldaImm v => Sys2Proof.Machine.execLdaImm v s
  | .ldyAbs abs => Sys2Proof.Machine.execLdyAbs abs s
  | .ldaAbs abs => Sys2Proof.Machine.execLdaAbs abs s
  | .ldxAbs abs => Sys2Proof.Machine.execLdxAbs abs s
  | .ldaLong long => Sys2Proof.Machine.execLdaLong long s
  | .bcs rel => Sys2Proof.Machine.execBcs rel s
  | .ldaZpIndY zp => Sys2Proof.Machine.execLdaZpIndY zp s
  | .ldaZpInd zp => Sys2Proof.Machine.execLdaZpInd zp s
  | .ldaSrIndY ds => Sys2Proof.Machine.execLdaSrIndY ds s
  | .ldyZpX zp => Sys2Proof.Machine.execLdyZpX zp s
  | .ldaZpX zp => Sys2Proof.Machine.execLdaZpX zp s
  | .ldxZpY zp => Sys2Proof.Machine.execLdxZpY zp s
  | .ldaZpIndLongY zp => Sys2Proof.Machine.execLdaZpIndLongY zp s
  | .ldaAbsY abs => Sys2Proof.Machine.execLdaAbsY abs s
  | .ldyAbsX abs => Sys2Proof.Machine.execLdyAbsX abs s
  | .ldaAbsX abs => Sys2Proof.Machine.execLdaAbsX abs s
  | .ldxAbsY abs => Sys2Proof.Machine.execLdxAbsY abs s
  | .ldaLongX long => Sys2Proof.Machine.execLdaLongX long s
  | .cpyImm v => Sys2Proof.Machine.execCpyImm v s
  | .cmpZpXInd zp => Sys2Proof.Machine.execCmpZpXInd zp s
  | .rep imm8 => Sys2Proof.Machine.execRep imm8 s
  | .cmpSr ds => Sys2Proof.Machine.execCmpSr ds s
  | .cpyZp zp => Sys2Proof.Machine.execCpyZp zp s
  | .cmpZp zp => Sys2Proof.Machine.execCmpZp zp s
  | .decZp zp => Sys2Proof.Machine.execDecZp zp s
  | .cmpZpIndLong zp => Sys2Proof.Machine.execCmpZpIndLong zp s
  | .cmpImm v => Sys2Proof.Machine.execCmpImm v s
  | .cpyAbs abs => Sys2Proof.Machine.execCpyAbs abs s
  | .cmpAbs abs => Sys2Proof.Machine.execCmpAbs abs s
  | .decAbs abs => Sys2Proof.Machine.execDecAbs abs s
  | .cmpLong long => Sys2Proof.Machine.execCmpLong long s
  | .bne rel => Sys2Proof.Machine.execBne rel s
  | .cmpZpIndY zp => Sys2Proof.Machine.execCmpZpIndY zp s
  | .cmpZpInd zp => Sys2Proof.Machine.execCmpZpInd zp s
  | .cmpSrIndY ds => Sys2Proof.Machine.execCmpSrIndY ds s
  | .peaZpInd zp => Sys2Proof.Machine.execPeaZpInd zp s
  | .cmpZpX zp => Sys2Proof.Machine.execCmpZpX zp s
  | .decZpX zp => Sys2Proof.Machine.execDecZpX zp s
  | .cmpZpIndLongY zp => Sys2Proof.Machine.execCmpZpIndLongY zp s
  | .cmpAbsY abs => Sys2Proof.Machine.execCmpAbsY abs s
  | .jmpAbsIndLong abs => Sys2Proof.Machine.execJmpAbsIndLong abs s
  | .cmpAbsX abs => Sys2Proof.Machine.execCmpAbsX abs s
  | .decAbsX abs => Sys2Proof.Machine.execDecAbsX abs s
  | .cmpLongX long => Sys2Proof.Machine.execCmpLongX long s
  | .cpxImm v => Sys2Proof.Machine.execCpxImm v s
  | .sbcZpXInd zp => Sys2Proof.Machine.execSbcZpXInd zp s
  | .sep imm8 => Sys2Proof.Machine.execSep imm8 s
  | .sbcSr ds => Sys2Proof.Machine.execSbcSr ds s
  | .cpxZp zp => Sys2Proof.Machine.execCpxZp zp s
  | .sbcZp zp => Sys2Proof.Machine.execSbcZp zp s
  | .incZp zp => Sys2Proof.Machine.execIncZp zp s
  | .sbcZpIndLong zp => Sys2Proof.Machine.execSbcZpIndLong zp s
  | .sbcImm v => Sys2Proof.Machine.execSbcImm v s
  | .cpxAbs abs => Sys2Proof.Machine.execCpxAbs abs s
  | .sbcAbs abs => Sys2Proof.Machine.execSbcAbs abs s
  | .incAbs abs => Sys2Proof.Machine.execIncAbs abs s
  | .sbcLong long => Sys2Proof.Machine.execSbcLong long s
  | .beq rel => Sys2Proof.Machine.execBeq rel s
  | .sbcZpIndY zp => Sys2Proof.Machine.execSbcZpIndY zp s
  | .sbcZpInd zp => Sys2Proof.Machine.execSbcZpInd zp s
  | .sbcSrIndY ds => Sys2Proof.Machine.execSbcSrIndY ds s
  | .peaImm imm16 => Sys2Proof.Machine.execPeaImm imm16 s
  | .sbcZpX zp => Sys2Proof.Machine.execSbcZpX zp s
  | .incZpX zp => Sys2Proof.Machine.execIncZpX zp s
  | .sbcZpIndLongY zp => Sys2Proof.Machine.execSbcZpIndLongY zp s
  | .sbcAbsY abs => Sys2Proof.Machine.execSbcAbsY abs s
  | .jsrAbsXInd abs => Sys2Proof.Machine.execJsrAbsXInd abs s
  | .sbcAbsX abs => Sys2Proof.Machine.execSbcAbsX abs s
  | .incAbsX abs => Sys2Proof.Machine.execIncAbsX abs s
  | .sbcLongX long => Sys2Proof.Machine.execSbcLongX long s
  | .php => Sys2Proof.Machine.execPhp s
  | .aslAcc => Sys2Proof.Machine.execAslAcc s
  | .phd => Sys2Proof.Machine.execPhd s
  | .clc => Sys2Proof.Machine.execClc s
  | .incAcc => Sys2Proof.Machine.execIncAcc s
  | .tcs => Sys2Proof.Machine.execTcs s
  | .plp => Sys2Proof.Machine.execPlp s
  | .rolAcc => Sys2Proof.Machine.execRolAcc s
  | .pld => Sys2Proof.Machine.execPld s
  | .sec => Sys2Proof.Machine.execSec s
  | .decAcc => Sys2Proof.Machine.execDecAcc s
  | .tsc => Sys2Proof.Machine.execTsc s
  | .rti => Sys2Proof.Machine.execRti s
  | .wdm => Sys2Proof.Machine.execWdm s
  | .pha => Sys2Proof.Machine.execPha s
  | .lsrAcc => Sys2Proof.Machine.execLsrAcc s
  | .phk => Sys2Proof.Machine.execPhk s
  | .cli => Sys2Proof.Machine.execCli s
  | .phy => Sys2Proof.Machine.execPhy s
  | .tcd => Sys2Proof.Machine.execTcd s
  | .rts => Sys2Proof.Machine.execRts s
  | .pla => Sys2Proof.Machine.execPla s
  | .rorAcc => Sys2Proof.Machine.execRorAcc s
  | .rtl => Sys2Proof.Machine.execRtl s
  | .sei => Sys2Proof.Machine.execSei s
  | .ply => Sys2Proof.Machine.execPly s
  | .tdc => Sys2Proof.Machine.execTdc s
  | .dey => Sys2Proof.Machine.execDey s
  | .txa => Sys2Proof.Machine.execTxa s
  | .phb => Sys2Proof.Machine.execPhb s
  | .tya => Sys2Proof.Machine.execTya s
  | .txs => Sys2Proof.Machine.execTxs s
  | .txy => Sys2Proof.Machine.execTxy s
  | .tay => Sys2Proof.Machine.execTay s
  | .tax => Sys2Proof.Machine.execTax s
  | .plb => Sys2Proof.Machine.execPlb s
  | .clv => Sys2Proof.Machine.execClv s
  | .tsx => Sys2Proof.Machine.execTsx s
  | .tyx => Sys2Proof.Machine.execTyx s
  | .iny => Sys2Proof.Machine.execIny s
  | .dex => Sys2Proof.Machine.execDex s
  | .wai => Sys2Proof.Machine.execWai s
  | .cld => Sys2Proof.Machine.execCld s
  | .phx => Sys2Proof.Machine.execPhx s
  | .stp => Sys2Proof.Machine.execStp s
  | .inx => Sys2Proof.Machine.execInx s
  | .nop => Sys2Proof.Machine.execNop s
  | .xba => Sys2Proof.Machine.execXba s
  | .sed => Sys2Proof.Machine.execSed s
  | .plx => Sys2Proof.Machine.execPlx s
  | .xce => Sys2Proof.Machine.execXce s

end Sys2Proof.Machine
end

