-- ==== Sys2Proof/Machine/Step.lean ====
section
/-! DEFINITION. One step of the machine (60_exceptions.md R358), and an instruction placed where the next step fetches
it. -/

namespace Sys2Proof.Machine

/-- `Step()` (60_exceptions.md R358): what the boundary decides, else one instruction at `PBR:PC`. -/
def step (s : State) : Host.Outcome State Fault Refusal :=
  match s.boundary with
  | some t => .next t
  | none =>
    match s.fetchInstr with
    | .ok i => exec i s
    | .error _ => .fault .truncatedInstruction

/-- `s` with the instruction whose bits are `w` stored at `PBR:PC`, and with no signal or wait before it, so that the
next step fetches and executes it. -/
def State.withFetchWord (s : State) (nbits w : Nat) : State := s.quiet.storeAtPc 0 (wordBytes nbits w)

end Sys2Proof.Machine
end

