-- ==== Sys2Proof/Safety.lean ====
section
/-! DEFINITION. The invariant of the machine's states, in the terms the claims use. No step faults (60_exceptions.md
R350), so a safe run is one whose states keep it. -/

namespace Sys2Proof.Machine

/-- What the spec says holds of every reachable state: memory is in its canonical form; in emulation mode bits 5 and 4
of `P` are 1 (10_state.md R33); while `x8` holds the index high bytes are zero (R22); in emulation mode `SH` is `$01`
(R26). -/
abbrev State.Inv (s : State) : Prop :=
  Memory.wf s.mem = true ∧
  (s.e = true → s.flag .m = true ∧ s.flag .x = true) ∧
  (s.x8 = true → hi s.x = 0 ∧ hi s.y = 0) ∧
  (s.e = true → hi s.sp = 1)

/-- The flags outside `fs` are unchanged. -/
def flagsKept (fs : List Flag) (s t : State) : Prop := ∀ f, f ∉ fs → t.flag f = s.flag f

/-- Every byte of memory reads as before. -/
def memoryKept (s t : State) : Prop := ∀ b, t.mem.read b = s.mem.read b

/-- Every byte of memory outside the addresses `bs` reads as before. -/
def memoryKeptOutside (bs : List Addr) (s t : State) : Prop := ∀ b, b ∉ bs → t.mem.read b = s.mem.read b

/-- N and Z are those of the value `v` (00_scope.md R10). -/
def nzOf {n : Nat} (v : BitVec n) (t : State) : Prop := t.flag .n = v.msb ∧ t.flag .z = decide (v = 0)

/-- `pcn`, the address of the instruction after `i` at `PC` (00_scope.md R10, 10_state.md R28). -/
def pcAfter (i : Instr) (s : State) : Word := s.pc + BitVec.ofNat 16 i.length

/-- The addresses of the bytes of an operand of a width at an effective address (20_memory.md R68). -/
def EA.operandBytes (ea : EA) (w : Width) : List Addr :=
  match w with
  | .w8 => [ea.byte 0]
  | .w16 => [ea.byte 0, ea.byte 1]

/-- `S` after `k` bytes have been pushed (20_memory.md R75, R80). -/
def pushedSpBy (e : Bool) (k : Nat) (sp : Word) : Word :=
  match k with
  | 0 => sp
  | j + 1 => pushedSp e (pushedSpBy e j sp)

/-- `S` after `k` bytes have been pulled (20_memory.md R77, R80). -/
def pulledSpBy (e : Bool) (k : Nat) (sp : Word) : Word :=
  match k with
  | 0 => sp
  | j + 1 => pulledSp e (pulledSpBy e j sp)

/-- The address of the byte that push number `k` (from 0) writes (20_memory.md R75). -/
def State.pushAddr (s : State) (k : Nat) : Addr := addr 0 (pushedSpBy s.e k s.sp)

/-- The byte that pull number `k` (from 0) reads (20_memory.md R77). -/
def State.pullByte (s : State) (k : Nat) : Byte := s.mem.read (addr 0 (pulledSpBy s.e (k + 1) s.sp))

/-- The bytes `bs` have been pushed in that order, and no other byte of memory has changed. -/
def pushedBytes (bs : List Byte) (s t : State) : Prop :=
  (∀ (k : Nat) (h : k < bs.length), t.mem.read (s.pushAddr k) = bs[k]) ∧
  memoryKeptOutside ((List.range bs.length).map s.pushAddr) s t ∧
  t.sp = pushedSpBy s.e bs.length s.sp

/-- The trap of kind `k` with return address `ret` has been entered (60_exceptions.md R352, R353, R354, R360): the
frame is on the stack, I is set and D clear, and the handler's address is read from the vector in bank 0. -/
def trapEntered (k : Trap) (ret : Word) (s t : State) : Prop :=
  (s.e = true → pushedBytes [hi ret, lo ret, pImage k s] s t) ∧
  (s.e = false → pushedBytes [s.pbr, hi ret, lo ret, s.p] s t) ∧
  t.flag .i = true ∧ t.flag .d = false ∧ flagsKept [.i, .d] s t ∧
  t.pc = word (t.mem.read (addr 0 (vector k s.e + 1))) (t.mem.read (addr 0 (vector k s.e))) ∧
  t = { s with mem := t.mem, sp := t.sp, p := t.p, pc := t.pc, pbr := 0 }

/-- What a read-modify-write instruction makes of the `n`-bit value `m` with carry `c`: the value `r` and the carry
`c'` (43_shift_incdec.md R201, R202, R205, R208, R209, R210), as numbers. -/
def modifiesTo (mn : Mnemonic) (n : Nat) (c : Bool) (m r : Nat) (c' : Bool) : Prop :=
  match mn with
  | .asl => r = 2 * m % 2 ^ n ∧ c' = decide (2 ^ n ≤ 2 * m)
  | .lsr => r = m / 2 ∧ c' = decide (m % 2 = 1)
  | .rol => r = (2 * m + c.toNat) % 2 ^ n ∧ c' = decide (2 ^ n ≤ 2 * m)
  | .ror => r = (m + 2 ^ n * c.toNat) / 2 ∧ c' = decide (m % 2 = 1)
  | .inc => r = (m + 1) % 2 ^ n ∧ c' = c
  | .dec => r = (m + (2 ^ n - 1)) % 2 ^ n ∧ c' = c
  | _ => False

/-- `exec i` repeated `k` times, as long as it answers a next state. -/
def execTimes (i : Instr) (k : Nat) (s : State) : Result :=
  match k with
  | 0 => .next s
  | j + 1 =>
    match exec i s with
    | .next t => execTimes i j t
    | .fault r => .fault r
    | .refused r => .refused r

/-- The flags of PLB, PLD, TCD and XBA for the value `v` (10_state.md R36): under `FLAG_PROFILE = Source` none changes,
under `Hardware` N and Z are those of `v`. -/
def profileFlags {n : Nat} (v : BitVec n) (s t : State) : Prop :=
  match s.cfg.flagProfile with
  | .source => t.p = s.p
  | .hardware => nzOf v t ∧ flagsKept [.n, .z] s t

/-- The instructions that write N and Z under either profile (10_state.md R32). -/
def resultWriters : List Mnemonic :=
  [.adc, .and, .asl, .bit, .cmp, .cpx, .cpy, .dec, .dex, .dey, .eor, .inc, .inx, .iny, .lda, .ldx, .ldy, .lsr,
   .ora, .pla, .plx, .ply, .rol, .ror, .sbc, .tax, .tay, .tdc, .tsc, .tsx, .txa, .txy, .tya, .tyx,
   .plp, .rep, .sep, .rti]

/-- The instructions that write N and Z under the hardware profile only (10_state.md R32, R36). -/
def hardwareWriters (q : FlagProfile) : List Mnemonic :=
  match q with
  | .source => []
  | .hardware => [.plb, .pld, .tcd, .xba]

/-- The instructions that write N and V under the source's profile only (10_state.md R32, R36). -/
def sourceWriters (q : FlagProfile) : List Mnemonic :=
  match q with
  | .source => [.trb, .tsb]
  | .hardware => []

/-- The instructions that write a flag under a profile (10_state.md R32, R36), BRK and COP by the trap entry, XCE by
entering emulation mode (R34). -/
def flagWriters (q : FlagProfile) (f : Flag) : List Mnemonic :=
  match f with
  | .n => resultWriters ++ sourceWriters q ++ hardwareWriters q
  | .z => resultWriters ++ [.trb, .tsb] ++ hardwareWriters q
  | .v => [.adc, .sbc, .bit, .clv, .plp, .rep, .sep, .rti] ++ sourceWriters q
  | .m | .x => [.plp, .rep, .sep, .rti, .xce]
  | .d => [.cld, .sed, .plp, .rep, .sep, .rti, .brk, .cop]
  | .i => [.cli, .sei, .plp, .rep, .sep, .rti, .brk, .cop]
  | .c => [.adc, .sbc, .asl, .lsr, .rol, .ror, .cmp, .cpx, .cpy, .clc, .sec, .xce, .plp, .rep, .sep, .rti]

end Sys2Proof.Machine

namespace Sys2Proof

/-- The instructions that end with the PC of the next instruction in sequence: all whose rule does not end in
`pc <- ...` (00_scope.md R10) and is not a block move or WDM (48_block_move.md R320, 49_system.md R336). -/
def Instr.sequential (i : Instr) : Bool :=
  match i.mnemonic with
  | .bcc | .bcs | .beq | .bmi | .bne | .bpl | .bra | .bvc | .bvs | .jmp | .jsr | .rtl | .rts | .brk | .cop | .rti
  | .mvn | .mvp | .wdm => false
  | _ => true

/-- The instructions that may write the accumulator (10_state.md R38). -/
def Instr.writesA (i : Instr) : Bool :=
  match i.mnemonic with
  | .adc | .and | .eor | .ora | .sbc | .lda | .pla | .txa | .tya | .tdc | .tsc | .xba | .mvn | .mvp => true
  | .asl | .dec | .inc | .lsr | .rol | .ror => i.form == .acc
  | _ => false

/-- The instructions that may write `X`: those of 10_state.md R38, and those that may zero its high byte (R34, R35). -/
def Instr.writesX (i : Instr) : Bool :=
  match i.mnemonic with
  | .ldx | .dex | .inx | .plx | .tax | .tsx | .tyx | .mvn | .mvp => true
  | .plp | .rep | .sep | .rti | .xce => true
  | _ => false

/-- The instructions that may write `Y`: those of 10_state.md R38, and those that may zero its high byte (R34, R35). -/
def Instr.writesY (i : Instr) : Bool :=
  match i.mnemonic with
  | .ldy | .dey | .iny | .ply | .tay | .txy | .mvn | .mvp => true
  | .plp | .rep | .sep | .rti | .xce => true
  | _ => false

/-- The instructions that may write `S` (10_state.md R26, R38): TCS, TXS, XCE, all pushes and pulls, the calls and
returns, and the traps. -/
def Instr.writesS (i : Instr) : Bool :=
  match i.mnemonic with
  | .tcs | .txs | .xce | .pea | .pha | .phb | .phd | .phk | .php | .phx | .phy | .pla | .plb | .pld | .plp | .plx
  | .ply | .jsr | .rts | .rtl | .rti | .brk | .cop => true
  | _ => false

/-- The instructions that store to memory: the stores, the read-modify-write instructions on memory, the pushes, the
calls, the traps and the block moves. -/
def Instr.stores (i : Instr) : Bool :=
  match i.mnemonic with
  | .sta | .stx | .sty | .stz | .trb | .tsb | .pea | .pha | .phb | .phd | .phk | .php | .phx | .phy | .jsr | .brk
  | .cop | .mvn | .mvp => true
  | .asl | .dec | .inc | .lsr | .rol | .ror => i.form != .acc
  | _ => false

end Sys2Proof
end

