-- ==== Sys2Proof/Certificates/Slice0/Obligations.lean ====
section
/-! DEFINITION. The statements for the provers, each with the rule of spec/ it rests on. -/

open Sys2Proof Sys2Proof.Machine

/-- O1. A step with nothing to take at the boundary runs the decoded instruction. Derived from 60_exceptions.md
R358, 30_encoding.md R92. -/
def Obligations.StepRunsTheDecodedInstruction : Prop :=
  ∀ (s : State) (i : Instr), s.resetLine = false → s.run = .running → s.nmiPending = false →
    (s.irqLine = false ∨ s.flag .i = true) → (s.cfg.abortAsserted = false ∨ s.abortLine = false) →
    decode s.m8 s.x8 s.fetchBytes = .ok i → i.WellFormed s.m8 s.x8 = true →
    step s = exec i s

/-- O2. No step faults or is refused, in any state and under any setting of the parameters, which no step changes.
Derived from 60_exceptions.md R350, 30_encoding.md R96, 20_memory.md R67, 00_scope.md R5. -/
def Obligations.StepAlwaysAnswersANextState : Prop :=
  ∀ s : State, ∃ t, step s = .next t ∧ t.cfg = s.cfg

/-- O3. The state after reset holds the values the spec tables, and the parameters their defaults. Derived from
10_state.md R45, 92_eei_decisions.md D8, 00_scope.md R5. -/
def Obligations.ResetStateHoldsTheResetValues : Prop :=
  State.reset.e = true ∧ State.reset.flag .m = true ∧ State.reset.flag .x = true ∧ State.reset.flag .i = true ∧
  State.reset.flag .d = false ∧ hi State.reset.x = 0 ∧ hi State.reset.y = 0 ∧ hi State.reset.sp = 1 ∧
  State.reset.d = 0 ∧ State.reset.dbr = 0 ∧ State.reset.pbr = 0 ∧
  State.reset.pc = word (State.reset.mem.read 0x00FFFD) (State.reset.mem.read 0x00FFFC) ∧
  State.reset.run = .running ∧ State.reset.nmiPending = false ∧
  State.reset.cfg.dpCarry = true ∧ State.reset.cfg.dpWrapCond = .sourceRule ∧ State.reset.cfg.flagProfile = .source ∧
  State.reset.cfg.wdmLength = .one ∧ State.reset.cfg.decimal = .definition ∧ State.reset.cfg.abortAsserted = false ∧
  State.reset.cfg.resetDraw = none ∧ State.reset.cfg.byteOrder = .lowFirst

/-- O4. While RESET is asserted a step is the reset sequence, whatever else is pending. Derived from
70_reset_and_hazards.md R400, 60_exceptions.md R357, 60_exceptions.md R364, 00_scope.md R5. -/
def Obligations.ResetLineResetsFromAnyState : Prop :=
  ∀ s : State, s.resetLine = true →
    ∃ t, step s = .next t ∧ t.e = true ∧ t.flag .m = true ∧ t.flag .x = true ∧ t.flag .i = true ∧
      t.flag .d = false ∧ hi t.x = 0 ∧ hi t.y = 0 ∧ hi t.sp = 1 ∧ t.d = 0 ∧ t.dbr = 0 ∧ t.pbr = 0 ∧
      t.pc = word (s.mem.read 0x00FFFD) (s.mem.read 0x00FFFC) ∧ t.run = .running ∧ t.nmiPending = false ∧
      memoryKept s t ∧ t.mem = s.mem ∧ t.cfg = s.cfg ∧
      t.irqLine = s.irqLine ∧ t.abortLine = s.abortLine ∧ t.resetLine = s.resetLine ∧
      (∀ r, s.cfg.resetDraw = some r →
        t.a = r.a ∧ lo t.x = r.xl ∧ lo t.y = r.yl ∧ lo t.sp = r.sl ∧ t.flag .n = r.n ∧ t.flag .v = r.v ∧
        t.flag .z = r.z ∧ t.flag .c = r.c)

/-- O5. Decoding the encoding of any well-formed instruction gives it back. Derived from 30_encoding.md R91,
30_encoding.md R95, 30_encoding.md R97, 30_encoding.md R103. -/
def Obligations.DecodeOfEncodeIsTheInstruction : Prop :=
  ∀ (m8 x8 : Bool) (i : Instr) (rest : List Byte), i.WellFormed m8 x8 = true →
    decode m8 x8 (encode i ++ rest) = .ok i

/-- O6. What the decoder reads is well-formed, and its encoding is exactly the bytes read. Derived from
30_encoding.md R91, 30_encoding.md R92, 30_encoding.md R97, 30_encoding.md R103. -/
def Obligations.DecodedInstructionIsWellFormedAndEncodesItsBytes : Prop :=
  ∀ (m8 x8 : Bool) (bs : List Byte) (i : Instr), decode m8 x8 bs = .ok i →
    i.WellFormed m8 x8 = true ∧ ∃ rest, bs = encode i ++ rest

/-- O7. Byte strings written out from the encoding tables decode to the instructions they stand for. Derived from
30_encoding.md R91, 30_encoding.md R95, 48_block_move.md R320. -/
def Obligations.WrittenOutBytesDecode : Prop :=
  decode true true [0xA9, 0x80] = .ok (.ldaImm (.b8 0x80)) ∧
  decode false true [0xA9, 0x34, 0x12] = .ok (.ldaImm (.b16 0x1234)) ∧
  decode true false [0xA2, 0x00, 0x80] = .ok (.ldxImm (.b16 0x8000)) ∧
  decode true true [0x8D, 0x00, 0x20] = .ok (.staAbs 0x2000) ∧
  decode true true [0xBF, 0x56, 0x34, 0x12] = .ok (.ldaLongX 0x123456) ∧
  decode true true [0x54, 0x7F, 0x7E] = .ok (.mvn 0x7F 0x7E) ∧
  decode true true [0x22, 0x00, 0x90, 0x7E] = .ok (.jsrLong 0x7E9000) ∧
  decode true true [0xD0, 0xFB] = .ok (.bne 0xFB) ∧
  decode true true [0x00, 0x00] = .ok (.brk 0x00) ∧
  decode true true [0xEA] = .ok .nop ∧
  decode true true [0xC2, 0x30] = .ok (.rep 0x30) ∧
  decode true true [0xB3, 0x01] = .ok (.ldaSrIndY 0x01)

/-- O8. An instruction placed at PBR:PC, with run and the signals set quiet (log entry 5, DESIGN CHOICE), is what
the very next step runs. Derived from 30_encoding.md R92, 20_memory.md R73. `quiet` sets run to Running and
deasserts NMI, IRQ, ABORT and RESET: the model's choice, no rule of the spec. -/
def Obligations.FetchWordRunsAsTheNextInstruction : Prop :=
  ∀ (s : State) (nbits w : Nat) (i : Instr), Memory.wf s.mem = true →
    decode s.m8 s.x8 (wordBytes nbits w) = .ok i →
    step (s.withFetchWord nbits w) = exec i (s.withFetchWord nbits w) ∧
    s.withFetchWord nbits w = { s.quiet with mem := (s.withFetchWord nbits w).mem }

/-- O9. The invariant of the machine holds after reset. Derived from 10_state.md R22, 10_state.md R26, 10_state.md
R33, 10_state.md R45. -/
def Obligations.InvariantHoldsAtReset : Prop :=
  State.reset.Inv

/-- O10. Every step keeps the invariant: widths, stack page and status bits stay as the mode demands. Derived from
10_state.md R22, 10_state.md R26, 10_state.md R33, 10_state.md R34, 10_state.md R35, 20_memory.md R80. -/
def Obligations.EveryStepKeepsTheInvariant : Prop :=
  ∀ s t : State, s.Inv → step s = .next t → t.Inv

/-- O11. Byte k of an access: linear modulo 2^24, bank0 in bank 0, pbank inside its bank. Derived from 20_memory.md
R68, 92_eei_decisions.md D3. -/
def Obligations.ByteAddressesOfAnAccessFollowItsWrapClass : Prop :=
  ∀ (a : Addr) (k : Nat),
    ((EA.mk a .linear).byte k).toNat = (a.toNat + k) % 2 ^ 24 ∧
    ((EA.mk a .bank0).byte k).toNat = (a.toNat + k) % 2 ^ 16 ∧
    ((EA.mk a .pbank).byte k).toNat = a.toNat / 2 ^ 16 * 2 ^ 16 + (a.toNat + k) % 2 ^ 16

/-- O12. Direct-page addresses, for both settings of DP_WRAP_COND and of DP_CARRY. Derived from
40_addressing_modes.md R124, 40_addressing_modes.md R126, 40_addressing_modes.md R128, 40_addressing_modes.md R129,
40_addressing_modes.md R130, 00_scope.md R5. -/
def Obligations.DirectPageAddresses : Prop :=
  ∀ (op b : Byte) (s : State),
    let wraps := s.e = true ∧
      (s.cfg.dpWrapCond = .sourceRule ∧ s.d = 0 ∧ legacy6502.contains op = true ∨
       s.cfg.dpWrapCond = .hardwareRule ∧ lo s.d = 0)
    let addressIs := fun (m : Mode) (index : Nat) =>
      (wraps → (effectiveAddress op m s).addr.toNat = (hi s.d).toNat * 256 + (b.toNat + index) % 256) ∧
      (¬ wraps → s.cfg.dpCarry = true → (effectiveAddress op m s).addr.toNat = s.d.toNat + b.toNat + index) ∧
      (¬ wraps → s.cfg.dpCarry = false →
        (effectiveAddress op m s).addr.toNat = (s.d.toNat + b.toNat + index) % 2 ^ 16) ∧
      (effectiveAddress op m s).cls = (if s.cfg.dpCarry then .linear else .bank0)
    addressIs (.zp b) 0 ∧ addressIs (.zpX b) s.x.toNat ∧ addressIs (.zpY b) s.y.toNat

/-- O13. Absolute, long and stack-relative addresses as numbers. Derived from 40_addressing_modes.md R136,
40_addressing_modes.md R138, 40_addressing_modes.md R139, 40_addressing_modes.md R140, 40_addressing_modes.md R144,
40_addressing_modes.md R145. -/
def Obligations.AbsoluteLongAndStackAddresses : Prop :=
  ∀ (op ds : Byte) (w : Word) (l : Addr) (s : State),
    (effectiveAddress op (.abs w) s).addr.toNat = s.dbr.toNat * 65536 + w.toNat ∧
    (effectiveAddress op (.absX w) s).addr.toNat = (s.dbr.toNat * 65536 + w.toNat + s.x.toNat) % 2 ^ 24 ∧
    (effectiveAddress op (.absY w) s).addr.toNat = (s.dbr.toNat * 65536 + w.toNat + s.y.toNat) % 2 ^ 24 ∧
    (effectiveAddress op (.long l) s).addr = l ∧
    (effectiveAddress op (.longX l) s).addr.toNat = (l.toNat + s.x.toNat) % 2 ^ 24 ∧
    (effectiveAddress op (.sr ds) s).addr.toNat = (s.sp.toNat + ds.toNat) % 65536 ∧
    (effectiveAddress op (.abs w) s).cls = .linear ∧ (effectiveAddress op (.absX w) s).cls = .linear ∧
    (effectiveAddress op (.absY w) s).cls = .linear ∧ (effectiveAddress op (.long l) s).cls = .linear ∧
    (effectiveAddress op (.longX l) s).cls = .linear ∧ (effectiveAddress op (.sr ds) s).cls = .bank0

/-- O14. Indirect addresses with their little-endian pointers, and the operand a form loads: the immediate, or the
bytes at the address. Derived from 40_addressing_modes.md R131, 40_addressing_modes.md R132, 40_addressing_modes.md
R133, 40_addressing_modes.md R134, 40_addressing_modes.md R135, 40_addressing_modes.md R137, 40_addressing_modes.md
R125, 41_load_store.md R160, 20_memory.md R63, 92_eei_decisions.md D1. -/
def Obligations.IndirectAddresses : Prop :=
  ∀ (op b : Byte) (s : State),
    let zp := effectiveAddress op (.zp b) s
    let zpX := effectiveAddress op (.zpX b) s
    let sr := effectiveAddress op (.sr b) s
    let ptr := fun (p : EA) => (s.mem.read (p.byte 0)).toNat + 256 * (s.mem.read (p.byte 1)).toNat
    (effectiveAddress op (.zpInd b) s).addr.toNat = s.dbr.toNat * 65536 + ptr zp ∧
    (effectiveAddress op (.zpXInd b) s).addr.toNat = s.dbr.toNat * 65536 + ptr zpX ∧
    (effectiveAddress op (.zpIndY b) s).addr.toNat = (s.dbr.toNat * 65536 + ptr zp + s.y.toNat) % 2 ^ 24 ∧
    (effectiveAddress op (.zpIndLong b) s).addr.toNat = ptr zp + 65536 * (s.mem.read (zp.byte 2)).toNat ∧
    (effectiveAddress op (.zpIndLongY b) s).addr.toNat =
      (ptr zp + 65536 * (s.mem.read (zp.byte 2)).toNat + s.y.toNat) % 2 ^ 24 ∧
    (effectiveAddress op (.srIndY b) s).addr.toNat = (s.dbr.toNat * 65536 + ptr sr + s.y.toNat) % 2 ^ 24 ∧
    (effectiveAddress op (.zpInd b) s).cls = .linear ∧ (effectiveAddress op (.zpXInd b) s).cls = .linear ∧
    (effectiveAddress op (.zpIndY b) s).cls = .linear ∧ (effectiveAddress op (.zpIndLong b) s).cls = .linear ∧
    (effectiveAddress op (.zpIndLongY b) s).cls = .linear ∧ (effectiveAddress op (.srIndY b) s).cls = .linear ∧
    (∀ v : Byte, loadOperand .w8 op (.imm (.b8 v)) s = v) ∧ (∀ v : Word, loadOperand .w16 op (.imm (.b16 v)) s = v) ∧
    (∀ m : Mode, loadOperand .w8 op (.mem m) s = s.mem.read ((effectiveAddress op m s).byte 0)) ∧
    (∀ m : Mode, loadOperand .w16 op (.mem m) s =
      word (s.mem.read ((effectiveAddress op m s).byte 1)) (s.mem.read ((effectiveAddress op m s).byte 0)))

/-- O15. LDA, all 15 forms: accumulator, N and Z from the operand; nothing else changes. States R161. -/
def Obligations.LdaLoadsTheAccumulator : Prop :=
  ∀ (i : Instr) (o : DataOperand) (s : State), i.mnemonic = .lda → i.form = .data o →
    i.WellFormed s.m8 s.x8 = true →
    ∃ t, exec i s = .next t ∧
      (s.m8 = true → t.a = word (hi s.a) (loadOperand .w8 i.opcode o s) ∧ nzOf (loadOperand .w8 i.opcode o s) t) ∧
      (s.m8 = false → t.a = loadOperand .w16 i.opcode o s ∧ nzOf (loadOperand .w16 i.opcode o s) t) ∧
      flagsKept [.n, .z] s t ∧ memoryKept s t ∧ t = { s with a := t.a, p := t.p, pc := pcAfter i s }

/-- O16. LDX, all 5 forms: X zero-extended, N and Z from the operand; nothing else changes. States R162. -/
def Obligations.LdxLoadsTheIndexRegister : Prop :=
  ∀ (i : Instr) (o : DataOperand) (s : State), i.mnemonic = .ldx → i.form = .data o →
    i.WellFormed s.m8 s.x8 = true →
    ∃ t, exec i s = .next t ∧
      (s.x8 = true → t.x = word 0 (loadOperand .w8 i.opcode o s) ∧ nzOf (loadOperand .w8 i.opcode o s) t) ∧
      (s.x8 = false → t.x = loadOperand .w16 i.opcode o s ∧ nzOf (loadOperand .w16 i.opcode o s) t) ∧
      flagsKept [.n, .z] s t ∧ memoryKept s t ∧ t = { s with x := t.x, p := t.p, pc := pcAfter i s }

/-- O17. LDY, all 5 forms: Y zero-extended, N and Z from the operand; nothing else changes. Derived from
41_load_store.md R163, 92_eei_decisions.md D9. -/
def Obligations.LdyLoadsTheIndexRegister : Prop :=
  ∀ (i : Instr) (o : DataOperand) (s : State), i.mnemonic = .ldy → i.form = .data o →
    i.WellFormed s.m8 s.x8 = true →
    ∃ t, exec i s = .next t ∧
      (s.x8 = true → t.y = word 0 (loadOperand .w8 i.opcode o s) ∧ nzOf (loadOperand .w8 i.opcode o s) t) ∧
      (s.x8 = false → t.y = loadOperand .w16 i.opcode o s ∧ nzOf (loadOperand .w16 i.opcode o s) t) ∧
      flagsKept [.n, .z] s t ∧ memoryKept s t ∧ t = { s with y := t.y, p := t.p, pc := pcAfter i s }

/-- O18. STA, all 14 forms: AL, and AH at the next byte when 16 bits wide; no register or flag changes. States
R164. -/
def Obligations.StaStoresTheAccumulator : Prop :=
  ∀ (i : Instr) (m : Mode) (s : State), i.mnemonic = .sta → i.form = .data (.mem m) →
    Memory.wf s.mem = true →
    ∃ t, exec i s = .next t ∧
      (s.m8 = true → t.mem.read ((effectiveAddress i.opcode m s).byte 0) = lo s.a ∧
        memoryKeptOutside ((effectiveAddress i.opcode m s).operandBytes .w8) s t) ∧
      (s.m8 = false → t.mem.read ((effectiveAddress i.opcode m s).byte 0) = lo s.a ∧
        t.mem.read ((effectiveAddress i.opcode m s).byte 1) = hi s.a ∧
        memoryKeptOutside ((effectiveAddress i.opcode m s).operandBytes .w16) s t) ∧
      t = { s with mem := t.mem, pc := pcAfter i s }

/-- O19. STX and STY, all 6 forms: one byte with x8, else two; no register or flag changes. States R165, R166. -/
def Obligations.StxAndStyStoreTheIndexRegister : Prop :=
  ∀ (i : Instr) (m : Mode) (s : State), i.form = .data (.mem m) →
    Memory.wf s.mem = true →
    (i.mnemonic = .stx →
      ∃ t, exec i s = .next t ∧
        (s.x8 = true → t.mem.read ((effectiveAddress i.opcode m s).byte 0) = lo s.x ∧
          memoryKeptOutside ((effectiveAddress i.opcode m s).operandBytes .w8) s t) ∧
        (s.x8 = false → t.mem.read ((effectiveAddress i.opcode m s).byte 0) = lo s.x ∧
          t.mem.read ((effectiveAddress i.opcode m s).byte 1) = hi s.x ∧
          memoryKeptOutside ((effectiveAddress i.opcode m s).operandBytes .w16) s t) ∧
        t = { s with mem := t.mem, pc := pcAfter i s }) ∧
    (i.mnemonic = .sty →
      ∃ t, exec i s = .next t ∧
        (s.x8 = true → t.mem.read ((effectiveAddress i.opcode m s).byte 0) = lo s.y ∧
          memoryKeptOutside ((effectiveAddress i.opcode m s).operandBytes .w8) s t) ∧
        (s.x8 = false → t.mem.read ((effectiveAddress i.opcode m s).byte 0) = lo s.y ∧
          t.mem.read ((effectiveAddress i.opcode m s).byte 1) = hi s.y ∧
          memoryKeptOutside ((effectiveAddress i.opcode m s).operandBytes .w16) s t) ∧
        t = { s with mem := t.mem, pc := pcAfter i s })

/-- O20. STZ, all 4 forms: one zero byte with m8, else two; no register or flag changes. Derived from
41_load_store.md R167, 41_load_store.md R160. -/
def Obligations.StzStoresZero : Prop :=
  ∀ (i : Instr) (m : Mode) (s : State), i.mnemonic = .stz → i.form = .data (.mem m) →
    Memory.wf s.mem = true →
    ∃ t, exec i s = .next t ∧
      (s.m8 = true → t.mem.read ((effectiveAddress i.opcode m s).byte 0) = 0 ∧
        memoryKeptOutside ((effectiveAddress i.opcode m s).operandBytes .w8) s t) ∧
      (s.m8 = false → t.mem.read ((effectiveAddress i.opcode m s).byte 0) = 0 ∧
        t.mem.read ((effectiveAddress i.opcode m s).byte 1) = 0 ∧
        memoryKeptOutside ((effectiveAddress i.opcode m s).operandBytes .w16) s t) ∧
      t = { s with mem := t.mem, pc := pcAfter i s }

/-- O21. ADC with D = 0, all 15 forms: exact sum, carry, and V exactly when the signed sum does not fit. Derived
from 42_alu.md R181, 42_alu.md R180. -/
def Obligations.AdcAddsInBinary : Prop :=
  ∀ (i : Instr) (o : DataOperand) (s : State), i.mnemonic = .adc → i.form = .data o →
    i.WellFormed s.m8 s.x8 = true → s.flag .d = false →
    let a := s.acc s.wm
    let v := loadOperand s.wm i.opcode o s
    let n := s.wm.bits
    ∃ t, exec i s = .next t ∧
      (t.acc s.wm).toNat = (a.toNat + v.toNat + (s.flag .c).toNat) % 2 ^ n ∧
      (t.flag .c = true ↔ 2 ^ n ≤ a.toNat + v.toNat + (s.flag .c).toNat) ∧
      (t.flag .v = true ↔
        a.toInt + v.toInt + (s.flag .c).toNat < -2 ^ (n - 1) ∨
        2 ^ (n - 1) ≤ a.toInt + v.toInt + (s.flag .c).toNat) ∧
      nzOf (t.acc s.wm) t ∧ (s.m8 = true → hi t.a = hi s.a) ∧
      flagsKept [.n, .v, .z, .c] s t ∧ memoryKept s t ∧ t = { s with a := t.a, p := t.p, pc := pcAfter i s }

/-- O22. SBC with D = 0, all 15 forms: difference with borrow, and V exactly when the signed difference does not
fit. Derived from 42_alu.md R189, 42_alu.md R180. -/
def Obligations.SbcSubtractsInBinary : Prop :=
  ∀ (i : Instr) (o : DataOperand) (s : State), i.mnemonic = .sbc → i.form = .data o →
    i.WellFormed s.m8 s.x8 = true → s.flag .d = false →
    let a := s.acc s.wm
    let v := loadOperand s.wm i.opcode o s
    let n := s.wm.bits
    ∃ t, exec i s = .next t ∧
      (t.acc s.wm).toNat = (a.toNat + (2 ^ n - 1 - v.toNat) + (s.flag .c).toNat) % 2 ^ n ∧
      (t.flag .c = true ↔ 2 ^ n ≤ a.toNat + (2 ^ n - 1 - v.toNat) + (s.flag .c).toNat) ∧
      (t.flag .v = true ↔
        a.toInt - v.toInt - (1 - (s.flag .c).toNat) < -2 ^ (n - 1) ∨
        2 ^ (n - 1) ≤ a.toInt - v.toInt - (1 - (s.flag .c).toNat)) ∧
      nzOf (t.acc s.wm) t ∧ (s.m8 = true → hi t.a = hi s.a) ∧
      flagsKept [.n, .v, .z, .c] s t ∧ memoryKept s t ∧ t = { s with a := t.a, p := t.p, pc := pcAfter i s }

/-- O23. ADC and SBC with D = 1 on valid BCD: the decimal sum or difference, all 30 constructors. Derived from
42_alu.md R192, 92_eei_decisions.md D14, 93_implementation_defined.md U7, 00_scope.md R5. -/
def Obligations.AdcAndSbcInDecimal : Prop :=
  ∀ (i : Instr) (o : DataOperand) (s : State), i.form = .data o →
    i.WellFormed s.m8 s.x8 = true → s.flag .d = true →
    decimalValid s.wm (s.acc s.wm) (loadOperand s.wm i.opcode o s) = true →
    let n := Width.digits s.wm
    let a := bcdVal n (s.acc s.wm).toNat
    let v := bcdVal n (loadOperand s.wm i.opcode o s).toNat
    let c := (s.flag .c).toNat
    (i.mnemonic = .adc → ∃ t, exec i s = .next t ∧
        bcdValid n (t.acc s.wm).toNat = true ∧
        (bcdVal n (t.acc s.wm).toNat : Int) = ((a : Int) + v + c) % 10 ^ n ∧
        (t.flag .c = true ↔ 10 ^ n ≤ a + v + c) ∧
        nzOf (t.acc s.wm) t ∧ (s.m8 = true → hi t.a = hi s.a) ∧
        (s.cfg.decimal = .platform →
          t.flag .v = (Config.decimalAdd s.wm (s.acc s.wm) (loadOperand s.wm i.opcode o s) (s.flag .c)).2.2) ∧
        flagsKept [.n, .v, .z, .c] s t ∧ memoryKept s t ∧
        t = { s with a := t.a, p := t.p, draws := t.draws, pc := pcAfter i s }) ∧
    (i.mnemonic = .sbc → ∃ t, exec i s = .next t ∧
        bcdValid n (t.acc s.wm).toNat = true ∧
        (bcdVal n (t.acc s.wm).toNat : Int) = ((a : Int) - v - (1 - c)) % 10 ^ n ∧
        (t.flag .c = true ↔ (0 : Int) ≤ (a : Int) - v - (1 - c)) ∧
        nzOf (t.acc s.wm) t ∧ (s.m8 = true → hi t.a = hi s.a) ∧
        (s.cfg.decimal = .platform →
          t.flag .v = (Config.decimalSub s.wm (s.acc s.wm) (loadOperand s.wm i.opcode o s) (s.flag .c)).2.2) ∧
        flagsKept [.n, .v, .z, .c] s t ∧ memoryKept s t ∧
        t = { s with a := t.a, p := t.p, draws := t.draws, pc := pcAfter i s })

/-- O24. ADC and SBC with D = 1 on an operand that is no BCD still run: only the result and N, V, Z, C are open.
Derived from 42_alu.md R192, 93_implementation_defined.md U6, 42_alu.md R181, 42_alu.md R189, 00_scope.md R5. -/
def Obligations.DecimalOnInvalidBcdStillRuns : Prop :=
  ∀ (i : Instr) (o : DataOperand) (s : State), (i.mnemonic = .adc ∨ i.mnemonic = .sbc) → i.form = .data o →
    i.WellFormed s.m8 s.x8 = true → s.flag .d = true →
    decimalValid s.wm (s.acc s.wm) (loadOperand s.wm i.opcode o s) = false →
    ∃ t, exec i s = .next t ∧ (s.m8 = true → hi t.a = hi s.a) ∧
      (s.cfg.decimal = .platform →
        let f := if i.mnemonic = .adc then Config.decimalAdd else Config.decimalSub
        let r := f s.wm (s.acc s.wm) (loadOperand s.wm i.opcode o s) (s.flag .c)
        t.acc s.wm = r.1 ∧ t.flag .c = r.2.1 ∧ t.flag .v = r.2.2 ∧ nzOf r.1 t) ∧
      flagsKept [.n, .v, .z, .c] s t ∧ memoryKept s t ∧
      t = { s with a := t.a, p := t.p, draws := t.draws, pc := pcAfter i s }

/-- O25. AND, EOR and ORA, all 45 constructors: bitwise into the accumulator, N and Z; V and C unchanged. Derived
from 42_alu.md R182, 42_alu.md R187, 42_alu.md R188, 42_alu.md R180. -/
def Obligations.LogicInstructions : Prop :=
  ∀ (i : Instr) (o : DataOperand) (s : State), i.form = .data o →
    i.WellFormed s.m8 s.x8 = true →
    let a := s.acc s.wm
    let v := loadOperand s.wm i.opcode o s
    ∀ r : BitVec s.wm.bits,
      (i.mnemonic = .and ∧ r = a &&& v) ∨ (i.mnemonic = .eor ∧ r = a ^^^ v) ∨ (i.mnemonic = .ora ∧ r = a ||| v) →
      ∃ t, exec i s = .next t ∧ t.acc s.wm = r ∧ nzOf r t ∧ (s.m8 = true → hi t.a = hi s.a) ∧
        flagsKept [.n, .z] s t ∧ memoryKept s t ∧ t = { s with a := t.a, p := t.p, pc := pcAfter i s }

/-- O26. CMP, CPX and CPY, all 21 constructors: C is no borrow, Z equality, N the top bit; nothing else changes.
Derived from 42_alu.md R184, 42_alu.md R185, 42_alu.md R186. -/
def Obligations.CompareInstructions : Prop :=
  ∀ (i : Instr) (o : DataOperand) (s : State), i.form = .data o →
    i.WellFormed s.m8 s.x8 = true →
    (i.mnemonic = .cmp → ∃ t, exec i s = .next t ∧
        (t.flag .c = true ↔ (loadOperand s.wm i.opcode o s).toNat ≤ (s.acc s.wm).toNat) ∧
        (t.flag .z = true ↔ s.acc s.wm = loadOperand s.wm i.opcode o s) ∧
        t.flag .n = (s.acc s.wm - loadOperand s.wm i.opcode o s).msb ∧
        flagsKept [.n, .z, .c] s t ∧ memoryKept s t ∧ t = { s with p := t.p, pc := pcAfter i s }) ∧
    (i.mnemonic = .cpx → ∃ t, exec i s = .next t ∧
        (t.flag .c = true ↔ (loadOperand s.wx i.opcode o s).toNat ≤ (s.xLow s.wx).toNat) ∧
        (t.flag .z = true ↔ s.xLow s.wx = loadOperand s.wx i.opcode o s) ∧
        t.flag .n = (s.xLow s.wx - loadOperand s.wx i.opcode o s).msb ∧
        flagsKept [.n, .z, .c] s t ∧ memoryKept s t ∧ t = { s with p := t.p, pc := pcAfter i s }) ∧
    (i.mnemonic = .cpy → ∃ t, exec i s = .next t ∧
        (t.flag .c = true ↔ (loadOperand s.wx i.opcode o s).toNat ≤ (s.yLow s.wx).toNat) ∧
        (t.flag .z = true ↔ s.yLow s.wx = loadOperand s.wx i.opcode o s) ∧
        t.flag .n = (s.yLow s.wx - loadOperand s.wx i.opcode o s).msb ∧
        flagsKept [.n, .z, .c] s t ∧ memoryKept s t ∧ t = { s with p := t.p, pc := pcAfter i s })

/-- O27. BIT, all 5 forms: Z from the AND, N and V the operand's two top bits (BIT # under FLAG_PROFILE = Source
only). Derived from 42_alu.md R183, 10_state.md R36, 00_scope.md R5. -/
def Obligations.BitTest : Prop :=
  ∀ (i : Instr) (o : DataOperand) (s : State), i.mnemonic = .bit → i.form = .data o →
    i.WellFormed s.m8 s.x8 = true →
    let v := loadOperand s.wm i.opcode o s
    ∃ t, exec i s = .next t ∧ (t.flag .z = true ↔ s.acc s.wm &&& v = 0) ∧
      (s.cfg.flagProfile = .source ∨ (∃ m, o = .mem m) →
        t.flag .n = v.getLsbD (s.wm.bits - 1) ∧ t.flag .v = v.getLsbD (s.wm.bits - 2)) ∧
      (s.cfg.flagProfile = .hardware → (∃ w, o = .imm w) → flagsKept [.z] s t) ∧
      flagsKept [.n, .v, .z] s t ∧ memoryKept s t ∧ t = { s with p := t.p, pc := pcAfter i s }

/-- O28. TRB and TSB, all 4 constructors: memory bits under A cleared or set, Z from the old value; N and V open.
Derived from 42_alu.md R190, 42_alu.md R191, 10_state.md R36, 20_memory.md R63, 92_eei_decisions.md D1, 00_scope.md
R5. -/
def Obligations.TestAndModifyBits : Prop :=
  ∀ (i : Instr) (m : Mode) (s : State), (i.mnemonic = .trb ∨ i.mnemonic = .tsb) → i.form = .data (.mem m) →
    Memory.wf s.mem = true →
    let ea := effectiveAddress i.opcode m s
    let v8 := s.mem.read (ea.byte 0)
    let v16 := word (s.mem.read (ea.byte 1)) (s.mem.read (ea.byte 0))
    ∃ t, exec i s = .next t ∧
      (s.m8 = true →
        t.mem.read (ea.byte 0) = (if i.mnemonic = .trb then v8 &&& ~~~lo s.a else v8 ||| lo s.a) ∧
        (t.flag .z = true ↔ lo s.a &&& v8 = 0) ∧ memoryKeptOutside (ea.operandBytes .w8) s t) ∧
      (s.m8 = false →
        word (t.mem.read (ea.byte 1)) (t.mem.read (ea.byte 0)) =
          (if i.mnemonic = .trb then v16 &&& ~~~s.a else v16 ||| s.a) ∧
        (t.flag .z = true ↔ s.a &&& v16 = 0) ∧ memoryKeptOutside (ea.operandBytes .w16) s t) ∧
      (s.cfg.flagProfile = .hardware → flagsKept [.z] s t) ∧ flagsKept [.n, .v, .z] s t ∧
      t = { s with mem := t.mem, p := t.p, draws := t.draws, pc := pcAfter i s }

/-- O29. ASL, LSR, ROL, ROR, INC and DEC on memory, all 24 constructors. Derived from 43_shift_incdec.md R200,
43_shift_incdec.md R201, 43_shift_incdec.md R202, 43_shift_incdec.md R205, 43_shift_incdec.md R208,
43_shift_incdec.md R209, 43_shift_incdec.md R210, 20_memory.md R63, 92_eei_decisions.md D1. -/
def Obligations.ReadModifyWriteOnMemory : Prop :=
  ∀ (i : Instr) (m : Mode) (s : State), i.mnemonic ∈ [.asl, .lsr, .rol, .ror, .inc, .dec] → i.form = .data (.mem m) →
    Memory.wf s.mem = true →
    let ea := effectiveAddress i.opcode m s
    let wordAt := fun (u : State) => word (u.mem.read (ea.byte 1)) (u.mem.read (ea.byte 0))
    ∃ t, exec i s = .next t ∧
      (s.m8 = true →
        modifiesTo i.mnemonic 8 (s.flag .c) (s.mem.read (ea.byte 0)).toNat (t.mem.read (ea.byte 0)).toNat (t.flag .c) ∧
        nzOf (t.mem.read (ea.byte 0)) t ∧ memoryKeptOutside (ea.operandBytes .w8) s t) ∧
      (s.m8 = false →
        modifiesTo i.mnemonic 16 (s.flag .c) (wordAt s).toNat (wordAt t).toNat (t.flag .c) ∧
        nzOf (wordAt t) t ∧ memoryKeptOutside (ea.operandBytes .w16) s t) ∧
      flagsKept [.n, .z, .c] s t ∧ t = { s with mem := t.mem, p := t.p, pc := pcAfter i s }

/-- O30. ASL, LSR, ROL, ROR, INC and DEC on the accumulator, all 6 constructors. Derived from 43_shift_incdec.md
R200, 43_shift_incdec.md R201, 43_shift_incdec.md R202, 43_shift_incdec.md R205, 43_shift_incdec.md R208,
43_shift_incdec.md R209, 43_shift_incdec.md R210. -/
def Obligations.ReadModifyWriteOnTheAccumulator : Prop :=
  ∀ (i : Instr) (s : State), i.mnemonic ∈ [.asl, .lsr, .rol, .ror, .inc, .dec] → i.form = .acc →
    ∃ t, exec i s = .next t ∧
      modifiesTo i.mnemonic s.wm.bits (s.flag .c) (s.acc s.wm).toNat (t.acc s.wm).toNat (t.flag .c) ∧
      nzOf (t.acc s.wm) t ∧ (s.m8 = true → hi t.a = hi s.a) ∧
      flagsKept [.n, .z, .c] s t ∧ memoryKept s t ∧ t = { s with a := t.a, p := t.p, pc := s.pc + 1 }

/-- O31. INX, DEX, INY and DEY count at width wx, zero-extended, with N and Z; nothing else changes. States R203,
R204, R206, R207. -/
def Obligations.IndexRegistersCount : Prop :=
  ∀ s : State,
    (∃ t, exec .inx s = .next t ∧ t.x = ((s.xLow s.wx + 1).setWidth 16) ∧ nzOf (s.xLow s.wx + 1) t ∧
      flagsKept [.n, .z] s t ∧ memoryKept s t ∧ t = { s with x := t.x, p := t.p, pc := s.pc + 1 }) ∧
    (∃ t, exec .dex s = .next t ∧ t.x = ((s.xLow s.wx - 1).setWidth 16) ∧ nzOf (s.xLow s.wx - 1) t ∧
      flagsKept [.n, .z] s t ∧ memoryKept s t ∧ t = { s with x := t.x, p := t.p, pc := s.pc + 1 }) ∧
    (∃ t, exec .iny s = .next t ∧ t.y = ((s.yLow s.wx + 1).setWidth 16) ∧ nzOf (s.yLow s.wx + 1) t ∧
      flagsKept [.n, .z] s t ∧ memoryKept s t ∧ t = { s with y := t.y, p := t.p, pc := s.pc + 1 }) ∧
    (∃ t, exec .dey s = .next t ∧ t.y = ((s.yLow s.wx - 1).setWidth 16) ∧ nzOf (s.yLow s.wx - 1) t ∧
      flagsKept [.n, .z] s t ∧ memoryKept s t ∧ t = { s with y := t.y, p := t.p, pc := s.pc + 1 })

/-- O32. The ten branches: taken (on their flag) to the next instruction plus the displacement modulo 2^16. Derived
from 44_branch_jump.md R220, 44_branch_jump.md R221, 44_branch_jump.md R222, 44_branch_jump.md R223,
44_branch_jump.md R224, 44_branch_jump.md R225, 44_branch_jump.md R226, 44_branch_jump.md R227, 44_branch_jump.md
R228, 44_branch_jump.md R229, 44_branch_jump.md R230. -/
def Obligations.Branches : Prop :=
  ∀ (s : State) (rel : Byte) (rell : Word),
    let target := BitVec.ofInt 16 (s.pc.toNat + 2 + rel.toInt)
    let goes := fun (b : Bool) => { s with pc := if b then target else s.pc + 2 }
    exec (.bcc rel) s = .next (goes (!s.flag .c)) ∧
    exec (.bcs rel) s = .next (goes (s.flag .c)) ∧
    exec (.beq rel) s = .next (goes (s.flag .z)) ∧
    exec (.bmi rel) s = .next (goes (s.flag .n)) ∧
    exec (.bne rel) s = .next (goes (!s.flag .z)) ∧
    exec (.bpl rel) s = .next (goes (!s.flag .n)) ∧
    exec (.bvc rel) s = .next (goes (!s.flag .v)) ∧
    exec (.bvs rel) s = .next (goes (s.flag .v)) ∧
    exec (.braRel rel) s = .next (goes true) ∧
    exec (.braRell rell) s = .next { s with pc := BitVec.ofInt 16 (s.pc.toNat + 3 + rell.toInt) }

/-- O33. JMP abs, (abs) and (abs,X): only PC changes; the pointers wrap in bank 0 and in the program bank (the
spec's decision D27). Derived from 44_branch_jump.md R231, 40_addressing_modes.md R141, 40_addressing_modes.md
R142, 92_eei_decisions.md D27. -/
def Obligations.JumpsInsideTheBank : Prop :=
  ∀ (s : State) (w : Word),
    exec (.jmpAbs w) s = .next { s with pc := w } ∧
    exec (.jmpAbsInd w) s =
      .next { s with pc := word (s.mem.read (addr 0 (w + 1))) (s.mem.read (addr 0 w)) } ∧
    exec (.jmpAbsXInd w) s =
      .next { s with pc := word (s.mem.read (addr s.pbr (w + s.x + 1))) (s.mem.read (addr s.pbr (w + s.x))) }

/-- O34. JMP long and JMP [abs] load PC and PBR; nothing else changes. Derived from 44_branch_jump.md R236,
40_addressing_modes.md R143. -/
def Obligations.LongJumps : Prop :=
  ∀ (s : State) (l : Addr) (w : Word),
    exec (.jmpLong l) s = .next { s with pc := l.extractLsb' 0 16, pbr := l.extractLsb' 16 8 } ∧
    exec (.jmpAbsIndLong w) s =
      .next { s with
        pc := word (s.mem.read (addr 0 (w + 1))) (s.mem.read (addr 0 w)), pbr := s.mem.read (addr 0 (w + 2)) }

/-- O35. JSR abs, JSR (abs,X) and JSL push the address of their last byte and jump; no flag changes. Derived from
44_branch_jump.md R232, 44_branch_jump.md R233, 20_memory.md R76, 20_memory.md R80. -/
def Obligations.SubroutineCalls : Prop :=
  ∀ (s : State) (w : Word) (l : Addr), Memory.wf s.mem = true →
    (∃ t, exec (.jsrAbs w) s = .next t ∧ pushedBytes [hi (s.pc + 2), lo (s.pc + 2)] s t ∧
      t = { s with mem := t.mem, sp := t.sp, pc := w }) ∧
    (∃ t, exec (.jsrAbsXInd w) s = .next t ∧ pushedBytes [hi (s.pc + 2), lo (s.pc + 2)] s t ∧
      t = { s with
        mem := t.mem, sp := t.sp
        pc := word (t.mem.read (addr s.pbr (w + s.x + 1))) (t.mem.read (addr s.pbr (w + s.x))) }) ∧
    (∃ t, exec (.jsrLong l) s = .next t ∧ pushedBytes [s.pbr, hi (s.pc + 3), lo (s.pc + 3)] s t ∧
      t = { s with mem := t.mem, sp := t.sp, pc := offset l, pbr := bank l })

/-- O36. RTS and RTL pull the return address, low byte first, and add one modulo 2^16; nothing else changes.
Derived from 44_branch_jump.md R234, 44_branch_jump.md R235, 20_memory.md R78. -/
def Obligations.SubroutineReturns : Prop :=
  ∀ s : State,
    exec .rts s = .next { s with pc := word (s.pullByte 1) (s.pullByte 0) + 1, sp := pulledSpBy s.e 2 s.sp } ∧
    exec .rtl s =
      .next { s with
        pc := word (s.pullByte 1) (s.pullByte 0) + 1, pbr := s.pullByte 2, sp := pulledSpBy s.e 3 s.sp }

/-- O37. A return right after its call resumes after the call, with every register as before. Derived from
44_branch_jump.md R232, 44_branch_jump.md R233, 44_branch_jump.md R234, 44_branch_jump.md R235. -/
def Obligations.CallsAndReturnsPair : Prop :=
  ∀ (s t : State) (w : Word) (l : Addr), s.Inv →
    (exec (.jsrAbs w) s = .next t → exec .rts t = .next { s with mem := t.mem, pc := s.pc + 3 }) ∧
    (exec (.jsrAbsXInd w) s = .next t → exec .rts t = .next { s with mem := t.mem, pc := s.pc + 3 }) ∧
    (exec (.jsrLong l) s = .next t → exec .rtl t = .next { s with mem := t.mem, pc := s.pc + 4 })

/-- O38. PEA, PEI and PER push 16 bits, high byte first, in both modes; no flag changes. Derived from 45_stack.md
R251, 45_stack.md R252, 45_stack.md R253, 20_memory.md R76. -/
def Obligations.EffectiveAddressPushes : Prop :=
  ∀ (s : State) (w rell : Word) (b : Byte), Memory.wf s.mem = true →
    let p := effectiveAddress 0xD4 (.zp b) s
    (∃ t, exec (.peaImm w) s = .next t ∧ pushedBytes [hi w, lo w] s t ∧
      t = { s with mem := t.mem, sp := t.sp, pc := s.pc + 3 }) ∧
    (∃ t, exec (.peaZpInd b) s = .next t ∧ pushedBytes [s.mem.read (p.byte 1), s.mem.read (p.byte 0)] s t ∧
      t = { s with mem := t.mem, sp := t.sp, pc := s.pc + 2 }) ∧
    (∃ t, exec (.peaRell rell) s = .next t ∧ pushedBytes [hi (s.pc + 3 + rell), lo (s.pc + 3 + rell)] s t ∧
      t = { s with mem := t.mem, sp := t.sp, pc := s.pc + 3 })

/-- O39. PHA, PHX, PHY at the register's width, PHD 16 bits, PHB, PHK, PHP 8 bits; no flag changes. Derived from
45_stack.md R250, 45_stack.md R254, 45_stack.md R255, 45_stack.md R256, 45_stack.md R257, 45_stack.md R258,
45_stack.md R259, 45_stack.md R260. -/
def Obligations.RegisterPushes : Prop :=
  ∀ s : State, Memory.wf s.mem = true →
    (∃ t, exec .pha s = .next t ∧ (s.m8 = true → pushedBytes [lo s.a] s t) ∧
      (s.m8 = false → pushedBytes [hi s.a, lo s.a] s t) ∧ t = { s with mem := t.mem, sp := t.sp, pc := s.pc + 1 }) ∧
    (∃ t, exec .phx s = .next t ∧ (s.x8 = true → pushedBytes [lo s.x] s t) ∧
      (s.x8 = false → pushedBytes [hi s.x, lo s.x] s t) ∧ t = { s with mem := t.mem, sp := t.sp, pc := s.pc + 1 }) ∧
    (∃ t, exec .phy s = .next t ∧ (s.x8 = true → pushedBytes [lo s.y] s t) ∧
      (s.x8 = false → pushedBytes [hi s.y, lo s.y] s t) ∧ t = { s with mem := t.mem, sp := t.sp, pc := s.pc + 1 }) ∧
    (∃ t, exec .phd s = .next t ∧ pushedBytes [hi s.d, lo s.d] s t ∧
      t = { s with mem := t.mem, sp := t.sp, pc := s.pc + 1 }) ∧
    (∃ t, exec .phb s = .next t ∧ pushedBytes [s.dbr] s t ∧
      t = { s with mem := t.mem, sp := t.sp, pc := s.pc + 1 }) ∧
    (∃ t, exec .phk s = .next t ∧ pushedBytes [s.pbr] s t ∧
      t = { s with mem := t.mem, sp := t.sp, pc := s.pc + 1 }) ∧
    (∃ t, exec .php s = .next t ∧ pushedBytes [s.p] s t ∧
      t = { s with mem := t.mem, sp := t.sp, pc := s.pc + 1 })

/-- O40. PLA, PLX and PLY pull at the register's width, low byte first, and set N and Z. Derived from 45_stack.md
R250, 45_stack.md R261, 45_stack.md R265, 45_stack.md R266. -/
def Obligations.RegisterPulls : Prop :=
  ∀ s : State,
    (∃ t, exec .pla s = .next t ∧
      (s.m8 = true → t.a = word (hi s.a) (s.pullByte 0) ∧ nzOf (s.pullByte 0) t ∧ t.sp = pulledSpBy s.e 1 s.sp) ∧
      (s.m8 = false → t.a = word (s.pullByte 1) (s.pullByte 0) ∧ nzOf (word (s.pullByte 1) (s.pullByte 0)) t ∧
        t.sp = pulledSpBy s.e 2 s.sp) ∧
      flagsKept [.n, .z] s t ∧ memoryKept s t ∧ t = { s with a := t.a, p := t.p, sp := t.sp, pc := s.pc + 1 }) ∧
    (∃ t, exec .plx s = .next t ∧
      (s.x8 = true → t.x = word 0 (s.pullByte 0) ∧ nzOf (s.pullByte 0) t ∧ t.sp = pulledSpBy s.e 1 s.sp) ∧
      (s.x8 = false → t.x = word (s.pullByte 1) (s.pullByte 0) ∧ nzOf (word (s.pullByte 1) (s.pullByte 0)) t ∧
        t.sp = pulledSpBy s.e 2 s.sp) ∧
      flagsKept [.n, .z] s t ∧ memoryKept s t ∧ t = { s with x := t.x, p := t.p, sp := t.sp, pc := s.pc + 1 }) ∧
    (∃ t, exec .ply s = .next t ∧
      (s.x8 = true → t.y = word 0 (s.pullByte 0) ∧ nzOf (s.pullByte 0) t ∧ t.sp = pulledSpBy s.e 1 s.sp) ∧
      (s.x8 = false → t.y = word (s.pullByte 1) (s.pullByte 0) ∧ nzOf (word (s.pullByte 1) (s.pullByte 0)) t ∧
        t.sp = pulledSpBy s.e 2 s.sp) ∧
      flagsKept [.n, .z] s t ∧ memoryKept s t ∧ t = { s with y := t.y, p := t.p, sp := t.sp, pc := s.pc + 1 })

/-- O41. PLB and PLD load DBR and D (N and Z under FLAG_PROFILE = Hardware only); PLP loads P, keeping bits 5 and 4
in emulation mode. Derived from 45_stack.md R262, 45_stack.md R263, 45_stack.md R264, 10_state.md R35, 10_state.md
R36, 00_scope.md R5. -/
def Obligations.BankDirectAndStatusPulls : Prop :=
  ∀ s : State,
    (∃ t, exec .plb s = .next t ∧ profileFlags (s.pullByte 0) s t ∧
      t = { s with dbr := s.pullByte 0, p := t.p, sp := pulledSpBy s.e 1 s.sp, pc := s.pc + 1 }) ∧
    (∃ t, exec .pld s = .next t ∧ profileFlags (word (s.pullByte 1) (s.pullByte 0)) s t ∧
      t = { s with
        d := word (s.pullByte 1) (s.pullByte 0), p := t.p, sp := pulledSpBy s.e 2 s.sp, pc := s.pc + 1 }) ∧
    (∃ t, exec .plp s = .next t ∧ t.p = (if s.e then s.pullByte 0 ||| 0x30 else s.pullByte 0) ∧
      t.sp = pulledSpBy s.e 1 s.sp ∧
      (t.flag .x = true → t.x = word 0 (lo s.x) ∧ t.y = word 0 (lo s.y)) ∧
      (t.flag .x = false → t.x = s.x ∧ t.y = s.y) ∧ memoryKept s t ∧
      t = { s with p := t.p, x := t.x, y := t.y, sp := t.sp, pc := s.pc + 1 })

/-- O42. TAX, TAY, TSX, TXA, TYA, TXY, TYX move at the destination's width and set N and Z. Derived from
46_transfer.md R280, 46_transfer.md R281, 46_transfer.md R282, 46_transfer.md R287, 46_transfer.md R288,
46_transfer.md R290, 46_transfer.md R291, 46_transfer.md R292. -/
def Obligations.TransfersByDestinationWidth : Prop :=
  ∀ s : State, s.Inv →
    (∃ t, exec .tax s = .next t ∧
      (s.x8 = true → t.x = word 0 (lo s.a) ∧ nzOf (lo s.a) t) ∧
      (s.x8 = false → t.x = s.a ∧ nzOf s.a t) ∧
      flagsKept [.n, .z] s t ∧ memoryKept s t ∧ t = { s with x := t.x, p := t.p, pc := s.pc + 1 }) ∧
    (∃ t, exec .tay s = .next t ∧
      (s.x8 = true → t.y = word 0 (lo s.a) ∧ nzOf (lo s.a) t) ∧
      (s.x8 = false → t.y = s.a ∧ nzOf s.a t) ∧
      flagsKept [.n, .z] s t ∧ memoryKept s t ∧ t = { s with y := t.y, p := t.p, pc := s.pc + 1 }) ∧
    (∃ t, exec .tsx s = .next t ∧
      (s.x8 = true → t.x = word 0 (lo s.sp) ∧ nzOf (lo s.sp) t) ∧
      (s.x8 = false → t.x = s.sp ∧ nzOf s.sp t) ∧
      flagsKept [.n, .z] s t ∧ memoryKept s t ∧ t = { s with x := t.x, p := t.p, pc := s.pc + 1 }) ∧
    (∃ t, exec .txy s = .next t ∧
      (s.x8 = true → t.y = word 0 (lo s.x) ∧ nzOf (lo s.x) t) ∧
      (s.x8 = false → t.y = s.x ∧ nzOf s.x t) ∧
      flagsKept [.n, .z] s t ∧ memoryKept s t ∧ t = { s with y := t.y, p := t.p, pc := s.pc + 1 }) ∧
    (∃ t, exec .tyx s = .next t ∧
      (s.x8 = true → t.x = word 0 (lo s.y) ∧ nzOf (lo s.y) t) ∧
      (s.x8 = false → t.x = s.y ∧ nzOf s.y t) ∧
      flagsKept [.n, .z] s t ∧ memoryKept s t ∧ t = { s with x := t.x, p := t.p, pc := s.pc + 1 }) ∧
    (∃ t, exec .txa s = .next t ∧
      (s.m8 = true → t.a = word (hi s.a) (lo s.x) ∧ nzOf (lo s.x) t) ∧
      (s.m8 = false → t.a = s.x ∧ nzOf s.x t) ∧
      flagsKept [.n, .z] s t ∧ memoryKept s t ∧ t = { s with a := t.a, p := t.p, pc := s.pc + 1 }) ∧
    (∃ t, exec .tya s = .next t ∧
      (s.m8 = true → t.a = word (hi s.a) (lo s.y) ∧ nzOf (lo s.y) t) ∧
      (s.m8 = false → t.a = s.y ∧ nzOf s.y t) ∧
      flagsKept [.n, .z] s t ∧ memoryKept s t ∧ t = { s with a := t.a, p := t.p, pc := s.pc + 1 })

/-- O43. TCD, TDC, TSC move 16 bits; TCS, TXS write S, or SL in emulation mode; XBA swaps the halves. Derived from
46_transfer.md R283, 46_transfer.md R284, 46_transfer.md R285, 46_transfer.md R286, 46_transfer.md R289,
46_transfer.md R293, 10_state.md R36, 00_scope.md R5. -/
def Obligations.WideTransfersStackTransfersAndXba : Prop :=
  ∀ s : State,
    (∃ t, exec .tcd s = .next t ∧ profileFlags s.a s t ∧ t = { s with d := s.a, p := t.p, pc := s.pc + 1 }) ∧
    (∃ t, exec .tdc s = .next t ∧ t.a = s.d ∧ nzOf s.d t ∧ flagsKept [.n, .z] s t ∧ memoryKept s t ∧
      t = { s with a := t.a, p := t.p, pc := s.pc + 1 }) ∧
    (∃ t, exec .tsc s = .next t ∧ t.a = s.sp ∧ nzOf s.sp t ∧ flagsKept [.n, .z] s t ∧ memoryKept s t ∧
      t = { s with a := t.a, p := t.p, pc := s.pc + 1 }) ∧
    exec .tcs s = .next { s with sp := if s.e then word (hi s.sp) (lo s.a) else s.a, pc := s.pc + 1 } ∧
    exec .txs s = .next { s with sp := if s.e then word (hi s.sp) (lo s.x) else s.x, pc := s.pc + 1 } ∧
    (∃ t, exec .xba s = .next t ∧ profileFlags (hi s.a) s t ∧
      t = { s with a := word (lo s.a) (hi s.a), p := t.p, pc := s.pc + 1 })

/-- O44. CLC, CLD, CLI, CLV, SEC, SED and SEI write their one flag; nothing else changes. Derived from
47_flags_status.md R300, 47_flags_status.md R301, 47_flags_status.md R302, 47_flags_status.md R303,
47_flags_status.md R305, 47_flags_status.md R306, 47_flags_status.md R307. -/
def Obligations.FlagInstructions : Prop :=
  ∀ s : State,
    (∃ t, exec .clc s = .next t ∧ t.flag .c = false ∧ flagsKept [.c] s t ∧ memoryKept s t ∧
      t = { s with p := t.p, pc := s.pc + 1 }) ∧
    (∃ t, exec .cld s = .next t ∧ t.flag .d = false ∧ flagsKept [.d] s t ∧ memoryKept s t ∧
      t = { s with p := t.p, pc := s.pc + 1 }) ∧
    (∃ t, exec .cli s = .next t ∧ t.flag .i = false ∧ flagsKept [.i] s t ∧ memoryKept s t ∧
      t = { s with p := t.p, pc := s.pc + 1 }) ∧
    (∃ t, exec .clv s = .next t ∧ t.flag .v = false ∧ flagsKept [.v] s t ∧ memoryKept s t ∧
      t = { s with p := t.p, pc := s.pc + 1 }) ∧
    (∃ t, exec .sec s = .next t ∧ t.flag .c = true ∧ flagsKept [.c] s t ∧ memoryKept s t ∧
      t = { s with p := t.p, pc := s.pc + 1 }) ∧
    (∃ t, exec .sed s = .next t ∧ t.flag .d = true ∧ flagsKept [.d] s t ∧ memoryKept s t ∧
      t = { s with p := t.p, pc := s.pc + 1 }) ∧
    (∃ t, exec .sei s = .next t ∧ t.flag .i = true ∧ flagsKept [.i] s t ∧ memoryKept s t ∧
      t = { s with p := t.p, pc := s.pc + 1 })

/-- O45. REP clears and SEP sets the flags of its mask; bits 5 and 4 stay 1 in emulation mode. Derived from
47_flags_status.md R304, 47_flags_status.md R308, 10_state.md R35. -/
def Obligations.RepAndSepWriteSelectedFlags : Prop :=
  ∀ (s : State) (b : Byte),
    (∃ t, exec (.rep b) s = .next t ∧ t.p = (if s.e then s.p &&& ~~~b ||| 0x30 else s.p &&& ~~~b) ∧
      (t.flag .x = true → t.x = word 0 (lo s.x) ∧ t.y = word 0 (lo s.y)) ∧
      (t.flag .x = false → t.x = s.x ∧ t.y = s.y) ∧ memoryKept s t ∧
      t = { s with p := t.p, x := t.x, y := t.y, pc := s.pc + 2 }) ∧
    (∃ t, exec (.sep b) s = .next t ∧ t.p = (if s.e then s.p ||| b ||| 0x30 else s.p ||| b) ∧
      (t.flag .x = true → t.x = word 0 (lo s.x) ∧ t.y = word 0 (lo s.y)) ∧
      (t.flag .x = false → t.x = s.x ∧ t.y = s.y) ∧ memoryKept s t ∧
      t = { s with p := t.p, x := t.x, y := t.y, pc := s.pc + 2 })

/-- O46. XCE exchanges C and E; with the new E = 1, M = X = 1, XH = YH = 0 and SH = $01; else nothing more. Derived
from 47_flags_status.md R309, 10_state.md R34. -/
def Obligations.XceExchangesCarryAndEmulation : Prop :=
  ∀ s : State, ∃ t, exec .xce s = .next t ∧ t.flag .c = s.e ∧ t.e = s.flag .c ∧
    (s.flag .c = true → t.flag .m = true ∧ t.flag .x = true ∧ t.x = word 0 (lo s.x) ∧ t.y = word 0 (lo s.y) ∧
      t.sp = word 1 (lo s.sp)) ∧
    (s.flag .c = false → t.flag .m = s.flag .m ∧ t.flag .x = s.flag .x ∧ t.x = s.x ∧ t.y = s.y ∧ t.sp = s.sp) ∧
    flagsKept [.c, .m, .x] s t ∧ memoryKept s t ∧
    t = { s with e := t.e, p := t.p, x := t.x, y := t.y, sp := t.sp, pc := s.pc + 1 }

/-- O47. One execution of MVN or MVP moves one byte and repeats until A wraps to $FFFF; no flag changes. Derived
from 48_block_move.md R320, 48_block_move.md R321, 48_block_move.md R322. -/
def Obligations.BlockMoveMovesOneByte : Prop :=
  ∀ (s : State) (dst src : Byte), Memory.wf s.mem = true →
    ∀ (i : Instr) (d : BitVec s.wx.bits), (i = .mvn dst src ∧ d = 1) ∨ (i = .mvp dst src ∧ d = -1) →
    ∃ t, exec i s = .next t ∧ t.mem.read (addr dst s.y) = s.mem.read (addr src s.x) ∧
      memoryKeptOutside [addr dst s.y] s t ∧
      t = { s with
        mem := t.mem, x := (s.xLow s.wx + d).setWidth 16, y := (s.yLow s.wx + d).setWidth 16, a := s.a - 1, dbr := dst
        pc := if s.a = 0 then s.pc + 3 else s.pc }

/-- O48. A + 1 executions of MVN or MVP copy the block of A + 1 bytes between banks and end the instruction.
Derived from 48_block_move.md R320, 48_block_move.md R321, 48_block_move.md R322. -/
def Obligations.BlockMoveCopiesTheWholeBlock : Prop :=
  ∀ (s : State) (dst src : Byte) (up : Bool), s.Inv → dst ≠ src → s.a.toNat + 1 ≤ 2 ^ s.wx.bits →
    let n := s.a.toNat + 1
    let moved := fun (r : Word) (k : Nat) =>
      BitVec.ofInt 16 ((r.toNat + (if up then (k : Int) else -(k : Int))) % 2 ^ s.wx.bits)
    ∃ t, execTimes (if up then .mvn dst src else .mvp dst src) n s = .next t ∧
      (∀ k, k < n → t.mem.read (addr dst (moved s.y k)) = s.mem.read (addr src (moved s.x k))) ∧
      memoryKeptOutside ((List.range n).map fun k => addr dst (moved s.y k)) s t ∧
      t = { s with
        mem := t.mem, a := 0xFFFF, x := moved s.x n, y := moved s.y n, dbr := dst, pc := s.pc + 3 }

/-- O49. The vector of each event in each mode, and the status byte it pushes in emulation mode. Derived from
60_exceptions.md R351, 60_exceptions.md R354, 92_eei_decisions.md D5, 92_eei_decisions.md D7. -/
def Obligations.VectorsAndStackedStatus : Prop :=
  vector .cop false = 0xFFE4 ∧ vector .brk false = 0xFFE6 ∧ vector .abort false = 0xFFE8 ∧
  vector .nmi false = 0xFFEA ∧ vector .irq false = 0xFFEE ∧
  vector .cop true = 0xFFF4 ∧ vector .brk true = 0xFFFE ∧ vector .abort true = 0xFFF8 ∧
  vector .nmi true = 0xFFFA ∧ vector .irq true = 0xFFFE ∧
  (∀ (s : State) (k : Trap), s.e = false → pImage k s = s.p) ∧
  (∀ (s : State) (k : Trap), s.e = true →
    (pImage k s).getLsbD 5 = true ∧ (pImage k s).getLsbD 4 = decide (k = .brk ∨ k = .cop) ∧
    ∀ f, f ≠ .m → f ≠ .x → flagOf (pImage k s) f = s.flag f)

/-- O50. BRK and COP enter their trap with return address PC + 2, whatever P.I is. Derived from 49_system.md R330,
49_system.md R331, 60_exceptions.md R352, 60_exceptions.md R353, 60_exceptions.md R360. -/
def Obligations.BrkAndCopEnterTheirTraps : Prop :=
  ∀ (s : State) (b : Byte), Memory.wf s.mem = true →
    (∃ t, exec (.brk b) s = .next t ∧ trapEntered .brk (s.pc + 2) s t) ∧
    (∃ t, exec (.cop b) s = .next t ∧ trapEntered .cop (s.pc + 2) s t)

/-- O51. RTI pulls P, then PC, and in native mode PBR; bits 5 and 4 of P stay 1 in emulation mode. Derived from
49_system.md R333, 10_state.md R35, 60_exceptions.md R359. -/
def Obligations.RtiReturnsFromATrap : Prop :=
  ∀ s : State, ∃ t, exec .rti s = .next t ∧
    t.p = (if s.e then s.pullByte 0 ||| 0x30 else s.pullByte 0) ∧ t.pc = word (s.pullByte 2) (s.pullByte 1) ∧
    (s.e = true → t.pbr = s.pbr ∧ t.sp = pulledSpBy true 3 s.sp) ∧
    (s.e = false → t.pbr = s.pullByte 3 ∧ t.sp = pulledSpBy false 4 s.sp) ∧
    (t.flag .x = true → t.x = word 0 (lo s.x) ∧ t.y = word 0 (lo s.y)) ∧
    (t.flag .x = false → t.x = s.x ∧ t.y = s.y) ∧ memoryKept s t ∧
    t = { s with p := t.p, pc := t.pc, pbr := t.pbr, sp := t.sp, x := t.x, y := t.y }

/-- O52. RTI right after BRK or COP restores every register and resumes two bytes on. Derived from 49_system.md
R330, 49_system.md R331, 49_system.md R333, 60_exceptions.md R352, 60_exceptions.md R353, 60_exceptions.md R359. -/
def Obligations.RtiUndoesASoftwareTrap : Prop :=
  ∀ (s t : State) (b : Byte), s.Inv → exec (.brk b) s = .next t ∨ exec (.cop b) s = .next t →
    exec .rti t = .next { s with mem := t.mem, pc := s.pc + 2, pbr := if s.e then 0 else s.pbr }

/-- O53. NOP and WDM only advance PC; STP stops and WAI waits, after advancing PC. Derived from 49_system.md R332,
49_system.md R334, 49_system.md R335, 49_system.md R336, 00_scope.md R5. -/
def Obligations.IdleAndReservedInstructions : Prop :=
  ∀ s : State,
    exec .nop s = .next { s with pc := s.pc + 1 } ∧
    exec .wdm s = .next { s with pc := s.pc + (if s.cfg.wdmLength = .one then 1 else 2) } ∧
    exec .stp s = .next { s with pc := s.pc + 1, run := .stopped } ∧
    exec .wai s = .next { s with pc := s.pc + 1, run := .waiting }

/-- O54. NMI is taken before IRQ, IRQ only with P.I = 0, from running or waiting, with PC as return address.
Derived from 60_exceptions.md R355, 60_exceptions.md R356, 60_exceptions.md R357, 60_exceptions.md R358,
92_eei_decisions.md D16. -/
def Obligations.InterruptsAreTakenBetweenInstructions : Prop :=
  ∀ s : State, Memory.wf s.mem = true → s.resetLine = false → s.run ≠ .stopped →
    (s.cfg.abortAsserted = false ∨ s.abortLine = false) →
    (s.nmiPending = true →
      ∃ t, step s = .next t ∧ trapEntered .nmi s.pc { s with run := .running, nmiPending := false } t) ∧
    (s.nmiPending = false → s.irqLine = true → s.flag .i = false →
      ∃ t, step s = .next t ∧ trapEntered .irq s.pc { s with run := .running } t)

/-- O55. A masked IRQ ends a wait without a trap; with no signal a wait lasts; a stop ignores all but RESET; ABORT
where the platform asserts it. Derived from 60_exceptions.md R358, 60_exceptions.md R362, 60_exceptions.md R364,
49_system.md R334, 49_system.md R335, 00_scope.md R5. -/
def Obligations.WaitingStoppedAndAbort : Prop :=
  (∀ s : State, s.resetLine = false → s.run = .waiting → s.nmiPending = false →
    (s.cfg.abortAsserted = false ∨ s.abortLine = false) →
    (s.irqLine = true → s.flag .i = true → step s = .next { s with run := .running }) ∧
    (s.irqLine = false → step s = .next s)) ∧
  (∀ s : State, s.resetLine = false → s.run = .stopped → step s = .next s) ∧
  (∀ s : State, Memory.wf s.mem = true → s.cfg.abortAsserted = true → s.resetLine = false → s.run ≠ .stopped →
    s.abortLine = true →
    ∃ t, step s = .next t ∧ trapEntered .abort s.pc { s with run := .running } t)

/-- O56. A push or pull moves S by one modulo 2^16 in native mode and SL by one modulo 256 in emulation mode.
Derived from 20_memory.md R75, 20_memory.md R77, 20_memory.md R80. -/
def Obligations.StackPointerMovesInItsMode : Prop :=
  ∀ sp : Word,
    (pushedSp false sp).toNat = (sp.toNat + 65535) % 65536 ∧ (pulledSp false sp).toNat = (sp.toNat + 1) % 65536 ∧
    hi (pushedSp true sp) = hi sp ∧ (lo (pushedSp true sp)).toNat = ((lo sp).toNat + 255) % 256 ∧
    hi (pulledSp true sp) = hi sp ∧ (lo (pulledSp true sp)).toNat = ((lo sp).toNat + 1) % 256 ∧
    ∀ e, pulledSp e (pushedSp e sp) = sp ∧ pushedSp e (pulledSp e sp) = sp

/-- O57. E, PBR, DBR, D, A, X, Y and S change only by the instructions of the access matrix. Derived from
10_state.md R23, 10_state.md R24, 10_state.md R25, 10_state.md R26, 10_state.md R30, 10_state.md R34, 10_state.md
R35, 10_state.md R38. -/
def Obligations.RegistersHaveOnlyTheirWriters : Prop :=
  ∀ (i : Instr) (s t : State), exec i s = .next t →
    (t.e ≠ s.e → i = .xce) ∧
    (t.pbr ≠ s.pbr →
      (∃ l, i = .jmpLong l) ∨ (∃ w, i = .jmpAbsIndLong w) ∨ (∃ l, i = .jsrLong l) ∨ i = .rtl ∨
      (i = .rti ∧ s.e = false) ∨ (∃ b, i = .brk b) ∨ (∃ b, i = .cop b)) ∧
    (t.dbr ≠ s.dbr → i = .plb ∨ (∃ d c, i = .mvn d c) ∨ (∃ d c, i = .mvp d c)) ∧
    (t.d ≠ s.d → i = .pld ∨ i = .tcd) ∧
    (t.a ≠ s.a → i.writesA = true) ∧ (t.x ≠ s.x → i.writesX = true) ∧ (t.y ≠ s.y → i.writesY = true) ∧
    (t.sp ≠ s.sp → i.writesS = true) ∧
    t.nmiPending = s.nmiPending ∧ t.irqLine = s.irqLine ∧ t.abortLine = s.abortLine ∧ t.resetLine = s.resetLine ∧
    t.cfg = s.cfg

/-- O58. Each flag of P changes only by the instructions the flag table lists for it, under either FLAG_PROFILE.
Derived from 10_state.md R32, 10_state.md R34, 10_state.md R36, 00_scope.md R5. -/
def Obligations.FlagsHaveOnlyTheirWriters : Prop :=
  ∀ (i : Instr) (s t : State) (f : Flag), exec i s = .next t → t.flag f ≠ s.flag f →
    i.mnemonic ∈ flagWriters s.cfg.flagProfile f

/-- O59. An instruction that is no store, push, call, trap, read-modify-write or block move leaves memory alone.
Derived from 10_state.md R38, 20_memory.md R67, 41_load_store.md R160. -/
def Obligations.OnlyStoringInstructionsChangeMemory : Prop :=
  ∀ (i : Instr) (s t : State), exec i s = .next t → ¬ memoryKept s t → i.stores = true

/-- O60. Every instruction that is no control transfer, trap, block move or WDM moves PC on by its length. Derived
from 10_state.md R28, 00_scope.md R10, 30_encoding.md R97. -/
def Obligations.SequentialInstructionsAdvanceByTheirLength : Prop :=
  ∀ (i : Instr) (s t : State), i.sequential = true → exec i s = .next t →
    t.pc = s.pc + BitVec.ofNat 16 (encode i).length ∧ t.pbr = s.pbr
end

