-- ==== Sys2Proof/Laws/Words.lean ====
section
/-! SUPPORT. The slices and concatenations of words as numbers, and that they undo each other. -/

namespace Sys2Proof

theorem word_toNat (h l : Byte) : (word h l).toNat = h.toNat * 256 + l.toNat := by
  have := l.isLt
  have e : (word h l).toNat = h.toNat <<< 8 ||| l.toNat := BitVec.toNat_append h l
  rw [e, Nat.shiftLeft_eq, Nat.mul_comm, ← Nat.two_pow_add_eq_or_of_lt (by omega)]

theorem addr_toNat (b : Byte) (w : Word) : (addr b w).toNat = b.toNat * 65536 + w.toNat := by
  have := w.isLt
  have e : (addr b w).toNat = b.toNat <<< 16 ||| w.toNat := BitVec.toNat_append b w
  rw [e, Nat.shiftLeft_eq, Nat.mul_comm, ← Nat.two_pow_add_eq_or_of_lt (by omega)]

theorem lo_toNat (w : Word) : (lo w).toNat = w.toNat % 256 := by simp [lo]

theorem hi_toNat (w : Word) : (hi w).toNat = w.toNat / 256 := by
  have := w.isLt
  simp only [hi, BitVec.extractLsb'_toNat, Nat.shiftRight_eq_div_pow]
  omega

theorem offset_toNat (a : Addr) : (offset a).toNat = a.toNat % 65536 := by simp [offset]

theorem bank_toNat (a : Addr) : (bank a).toNat = a.toNat / 65536 := by
  have := a.isLt
  simp only [bank, BitVec.extractLsb'_toNat, Nat.shiftRight_eq_div_pow]
  omega

@[simp] theorem lo_word (h l : Byte) : lo (word h l) = l := by
  apply BitVec.eq_of_toNat_eq
  have := l.isLt
  rw [lo_toNat, word_toNat]; omega

@[simp] theorem hi_word (h l : Byte) : hi (word h l) = h := by
  apply BitVec.eq_of_toNat_eq
  have := l.isLt
  rw [hi_toNat, word_toNat]; omega

@[simp] theorem word_hi_lo (w : Word) : word (hi w) (lo w) = w := by
  apply BitVec.eq_of_toNat_eq
  rw [word_toNat, hi_toNat, lo_toNat]; omega

@[simp] theorem bank_addr (b : Byte) (w : Word) : bank (addr b w) = b := by
  apply BitVec.eq_of_toNat_eq
  have := w.isLt
  rw [bank_toNat, addr_toNat]; omega

@[simp] theorem offset_addr (b : Byte) (w : Word) : offset (addr b w) = w := by
  apply BitVec.eq_of_toNat_eq
  have := w.isLt
  rw [offset_toNat, addr_toNat]; omega

@[simp] theorem addr_bank_offset (a : Addr) : addr (bank a) (offset a) = a := by
  apply BitVec.eq_of_toNat_eq
  rw [addr_toNat, bank_toNat, offset_toNat]; omega

@[simp] theorem addr_inj (b b' : Byte) (w w' : Word) : addr b w = addr b' w' ↔ b = b' ∧ w = w' :=
  ⟨fun h => ⟨by simpa using congrArg bank h, by simpa using congrArg offset h⟩, fun ⟨h, h'⟩ => by rw [h, h']⟩

@[simp] theorem word_inj (h h' l l' : Byte) : word h l = word h' l' ↔ h = h' ∧ l = l' :=
  ⟨fun e => ⟨by simpa using congrArg hi e, by simpa using congrArg lo e⟩, fun ⟨e, e'⟩ => by rw [e, e']⟩

/-- A zero high byte is a value below 256. -/
theorem hi_eq_zero_iff (w : Word) : hi w = 0 ↔ w.toNat < 256 := by
  rw [← BitVec.toNat_inj, hi_toNat, show (0 : Byte).toNat = 0 from rfl]
  omega

/-- A value zero-extended from 8 bits has a zero high byte. -/
@[simp] theorem hi_setWidth (b : Byte) : hi (b.setWidth 16) = 0 := by
  rw [hi_eq_zero_iff]
  have := b.isLt
  simp only [BitVec.toNat_setWidth]
  omega

/-- The low byte of a zero-extended byte. -/
@[simp] theorem lo_setWidth (b : Byte) : lo (b.setWidth 16) = b := by
  apply BitVec.eq_of_toNat_eq
  have := b.isLt
  rw [lo_toNat, BitVec.toNat_setWidth]; omega

/-- The low eight bits of a word are its low byte. -/
@[simp] theorem setWidth_eq_lo (w : Word) : w.setWidth 8 = lo w := by
  apply BitVec.eq_of_toNat_eq
  rw [lo_toNat, BitVec.toNat_setWidth]

end Sys2Proof
end

