-- ==== Sys2Proof/Laws/Flags.lean ====
section
/-! SUPPORT. The flags of a status byte: what writing one leaves of each, and that the eight flags are the byte. -/

namespace Sys2Proof.Machine

theorem Flag.bit_lt (f : Flag) : f.bit < 8 := by cases f <;> decide

theorem Flag.bit_inj {f g : Flag} (h : f.bit = g.bit) : f = g := by
  cases f <;> cases g <;> first | rfl | (exfalso; revert h; decide)

theorem Flag.mask_getLsbD (f : Flag) (i : Nat) (hi : i < 8) : f.mask.getLsbD i = decide (i = f.bit) := by
  cases f <;> interval_cases i <;> rfl

/-- Writing a flag gives it its value and keeps the others. -/
theorem flagOf_withFlag (p : Byte) (f g : Flag) (b : Bool) :
    flagOf (withFlag p f b) g = if g = f then b else flagOf p g := by
  have hm := f.mask_getLsbD g.bit g.bit_lt
  by_cases h : g = f
  · subst h
    cases b <;> simp [flagOf, withFlag, hm]
  · have hne : ¬ g.bit = f.bit := fun e => h (Flag.bit_inj e)
    have hlt := g.bit_lt
    rw [decide_eq_false hne] at hm
    cases b
    · simp only [flagOf, withFlag, h, if_false, Bool.false_eq_true, BitVec.getLsbD_and, BitVec.getLsbD_not, hm, hlt]
      simp
    · simp only [flagOf, withFlag, h, if_true, if_false, BitVec.getLsbD_or, hm, Bool.or_false]

@[simp] theorem flagOf_withFlag_same (p : Byte) (f : Flag) (b : Bool) : flagOf (withFlag p f b) f = b := by
  simp [flagOf_withFlag]

theorem flagOf_withFlag_ne (p : Byte) {f g : Flag} (b : Bool) (h : g ≠ f) :
    flagOf (withFlag p f b) g = flagOf p g := by simp [flagOf_withFlag, h]

/-- Two status bytes with the same flags are the same byte. -/
theorem status_ext {p q : Byte} (h : ∀ f, flagOf p f = flagOf q f) : p = q := by
  apply BitVec.eq_of_getLsbD_eq
  intro i hi
  have key : ∃ f : Flag, f.bit = i := by
    interval_cases i
    exacts [⟨.c, rfl⟩, ⟨.z, rfl⟩, ⟨.i, rfl⟩, ⟨.d, rfl⟩, ⟨.x, rfl⟩, ⟨.m, rfl⟩, ⟨.v, rfl⟩, ⟨.n, rfl⟩]
  obtain ⟨f, rfl⟩ := key
  exact h f

/-- Writing a flag with the value it has changes nothing. -/
@[simp] theorem withFlag_self (p : Byte) (f : Flag) : withFlag p f (flagOf p f) = p :=
  status_ext fun g => by by_cases h : g = f <;> simp [flagOf_withFlag, h]

/-- The flags of a bitwise OR, AND and complement are those of the bits. -/
@[simp] theorem flagOf_or (p q : Byte) (f : Flag) : flagOf (p ||| q) f = (flagOf p f || flagOf q f) := by
  simp [flagOf, BitVec.getLsbD_or]

@[simp] theorem flagOf_and (p q : Byte) (f : Flag) : flagOf (p &&& q) f = (flagOf p f && flagOf q f) := by
  simp [flagOf, BitVec.getLsbD_and]

@[simp] theorem flagOf_not (p : Byte) (f : Flag) : flagOf (~~~p) f = !flagOf p f := by
  simp [flagOf, f.bit_lt]

/-- The flags `WriteP` stores (10_state.md R35): in emulation mode M and X are 1. -/
theorem flagOf_writtenP (e : Bool) (v : Byte) (f : Flag) :
    flagOf (writtenP e v) f = (flagOf v f || (e && (decide (f = .m) || decide (f = .x)))) := by
  cases e
  · simp [writtenP]
  · have : flagOf 0x30 f = (decide (f = .m) || decide (f = .x)) := by cases f <;> rfl
    simp only [writtenP, if_true, Bool.true_and, flagOf_or, this]

@[simp] theorem Width.bits_pos (w : Width) : 0 < w.bits := by cases w <;> decide

/-- A width is 8 bits exactly when its predicate holds. -/
@[simp] theorem Width.of_true : Width.of true = .w8 := rfl
@[simp] theorem Width.of_false : Width.of false = .w16 := rfl

end Sys2Proof.Machine
end

