-- ==== Sys2Proof/Laws/State.lean ====
section
/-! SUPPORT. Every update of the state, field by field: what it leaves unchanged, and what it writes. -/

namespace Sys2Proof.Machine

@[simp] theorem setFlag_a_same (s : State) (f : Flag) (b : Bool) : (s.setFlag f b).a = s.a := rfl
@[simp] theorem setFlag_x_same (s : State) (f : Flag) (b : Bool) : (s.setFlag f b).x = s.x := rfl
@[simp] theorem setFlag_y_same (s : State) (f : Flag) (b : Bool) : (s.setFlag f b).y = s.y := rfl
@[simp] theorem setFlag_d_same (s : State) (f : Flag) (b : Bool) : (s.setFlag f b).d = s.d := rfl
@[simp] theorem setFlag_sp_same (s : State) (f : Flag) (b : Bool) : (s.setFlag f b).sp = s.sp := rfl
@[simp] theorem setFlag_pc_same (s : State) (f : Flag) (b : Bool) : (s.setFlag f b).pc = s.pc := rfl
@[simp] theorem setFlag_dbr_same (s : State) (f : Flag) (b : Bool) : (s.setFlag f b).dbr = s.dbr := rfl
@[simp] theorem setFlag_pbr_same (s : State) (f : Flag) (b : Bool) : (s.setFlag f b).pbr = s.pbr := rfl
@[simp] theorem setFlag_e_same (s : State) (f : Flag) (b : Bool) : (s.setFlag f b).e = s.e := rfl
@[simp] theorem setFlag_run_same (s : State) (f : Flag) (b : Bool) : (s.setFlag f b).run = s.run := rfl
@[simp] theorem setFlag_nmiPending_same (s : State) (f : Flag) (b : Bool) : (s.setFlag f b).nmiPending = s.nmiPending := rfl
@[simp] theorem setFlag_irqLine_same (s : State) (f : Flag) (b : Bool) : (s.setFlag f b).irqLine = s.irqLine := rfl
@[simp] theorem setFlag_abortLine_same (s : State) (f : Flag) (b : Bool) : (s.setFlag f b).abortLine = s.abortLine := rfl
@[simp] theorem setFlag_resetLine_same (s : State) (f : Flag) (b : Bool) : (s.setFlag f b).resetLine = s.resetLine := rfl
@[simp] theorem setFlag_mem_same (s : State) (f : Flag) (b : Bool) : (s.setFlag f b).mem = s.mem := rfl
@[simp] theorem setFlag_draws_same (s : State) (f : Flag) (b : Bool) : (s.setFlag f b).draws = s.draws := rfl
@[simp] theorem setFlag_cfg_same (s : State) (f : Flag) (b : Bool) : (s.setFlag f b).cfg = s.cfg := rfl

@[simp] theorem setNZ_a_same {n : Nat} (v : BitVec n) (s : State) : (s.setNZ v).a = s.a := rfl
@[simp] theorem setNZ_x_same {n : Nat} (v : BitVec n) (s : State) : (s.setNZ v).x = s.x := rfl
@[simp] theorem setNZ_y_same {n : Nat} (v : BitVec n) (s : State) : (s.setNZ v).y = s.y := rfl
@[simp] theorem setNZ_d_same {n : Nat} (v : BitVec n) (s : State) : (s.setNZ v).d = s.d := rfl
@[simp] theorem setNZ_sp_same {n : Nat} (v : BitVec n) (s : State) : (s.setNZ v).sp = s.sp := rfl
@[simp] theorem setNZ_pc_same {n : Nat} (v : BitVec n) (s : State) : (s.setNZ v).pc = s.pc := rfl
@[simp] theorem setNZ_dbr_same {n : Nat} (v : BitVec n) (s : State) : (s.setNZ v).dbr = s.dbr := rfl
@[simp] theorem setNZ_pbr_same {n : Nat} (v : BitVec n) (s : State) : (s.setNZ v).pbr = s.pbr := rfl
@[simp] theorem setNZ_e_same {n : Nat} (v : BitVec n) (s : State) : (s.setNZ v).e = s.e := rfl
@[simp] theorem setNZ_run_same {n : Nat} (v : BitVec n) (s : State) : (s.setNZ v).run = s.run := rfl
@[simp] theorem setNZ_nmiPending_same {n : Nat} (v : BitVec n) (s : State) : (s.setNZ v).nmiPending = s.nmiPending := rfl
@[simp] theorem setNZ_irqLine_same {n : Nat} (v : BitVec n) (s : State) : (s.setNZ v).irqLine = s.irqLine := rfl
@[simp] theorem setNZ_abortLine_same {n : Nat} (v : BitVec n) (s : State) : (s.setNZ v).abortLine = s.abortLine := rfl
@[simp] theorem setNZ_resetLine_same {n : Nat} (v : BitVec n) (s : State) : (s.setNZ v).resetLine = s.resetLine := rfl
@[simp] theorem setNZ_mem_same {n : Nat} (v : BitVec n) (s : State) : (s.setNZ v).mem = s.mem := rfl
@[simp] theorem setNZ_draws_same {n : Nat} (v : BitVec n) (s : State) : (s.setNZ v).draws = s.draws := rfl
@[simp] theorem setNZ_cfg_same {n : Nat} (v : BitVec n) (s : State) : (s.setNZ v).cfg = s.cfg := rfl

@[simp] theorem setFlagFree_a_same (s : State) (f : Flag) : (s.setFlagFree f).a = s.a := rfl
@[simp] theorem setFlagFree_x_same (s : State) (f : Flag) : (s.setFlagFree f).x = s.x := rfl
@[simp] theorem setFlagFree_y_same (s : State) (f : Flag) : (s.setFlagFree f).y = s.y := rfl
@[simp] theorem setFlagFree_d_same (s : State) (f : Flag) : (s.setFlagFree f).d = s.d := rfl
@[simp] theorem setFlagFree_sp_same (s : State) (f : Flag) : (s.setFlagFree f).sp = s.sp := rfl
@[simp] theorem setFlagFree_pc_same (s : State) (f : Flag) : (s.setFlagFree f).pc = s.pc := rfl
@[simp] theorem setFlagFree_dbr_same (s : State) (f : Flag) : (s.setFlagFree f).dbr = s.dbr := rfl
@[simp] theorem setFlagFree_pbr_same (s : State) (f : Flag) : (s.setFlagFree f).pbr = s.pbr := rfl
@[simp] theorem setFlagFree_e_same (s : State) (f : Flag) : (s.setFlagFree f).e = s.e := rfl
@[simp] theorem setFlagFree_run_same (s : State) (f : Flag) : (s.setFlagFree f).run = s.run := rfl
@[simp] theorem setFlagFree_nmiPending_same (s : State) (f : Flag) : (s.setFlagFree f).nmiPending = s.nmiPending := rfl
@[simp] theorem setFlagFree_irqLine_same (s : State) (f : Flag) : (s.setFlagFree f).irqLine = s.irqLine := rfl
@[simp] theorem setFlagFree_abortLine_same (s : State) (f : Flag) : (s.setFlagFree f).abortLine = s.abortLine := rfl
@[simp] theorem setFlagFree_resetLine_same (s : State) (f : Flag) : (s.setFlagFree f).resetLine = s.resetLine := rfl
@[simp] theorem setFlagFree_mem_same (s : State) (f : Flag) : (s.setFlagFree f).mem = s.mem := rfl
@[simp] theorem setFlagFree_cfg_same (s : State) (f : Flag) : (s.setFlagFree f).cfg = s.cfg := rfl

@[simp] theorem drawBit_a_same (s : State) : (s.drawBit.2).a = s.a := rfl
@[simp] theorem drawBit_x_same (s : State) : (s.drawBit.2).x = s.x := rfl
@[simp] theorem drawBit_y_same (s : State) : (s.drawBit.2).y = s.y := rfl
@[simp] theorem drawBit_d_same (s : State) : (s.drawBit.2).d = s.d := rfl
@[simp] theorem drawBit_sp_same (s : State) : (s.drawBit.2).sp = s.sp := rfl
@[simp] theorem drawBit_pc_same (s : State) : (s.drawBit.2).pc = s.pc := rfl
@[simp] theorem drawBit_dbr_same (s : State) : (s.drawBit.2).dbr = s.dbr := rfl
@[simp] theorem drawBit_pbr_same (s : State) : (s.drawBit.2).pbr = s.pbr := rfl
@[simp] theorem drawBit_p_same (s : State) : (s.drawBit.2).p = s.p := rfl
@[simp] theorem drawBit_e_same (s : State) : (s.drawBit.2).e = s.e := rfl
@[simp] theorem drawBit_run_same (s : State) : (s.drawBit.2).run = s.run := rfl
@[simp] theorem drawBit_nmiPending_same (s : State) : (s.drawBit.2).nmiPending = s.nmiPending := rfl
@[simp] theorem drawBit_irqLine_same (s : State) : (s.drawBit.2).irqLine = s.irqLine := rfl
@[simp] theorem drawBit_abortLine_same (s : State) : (s.drawBit.2).abortLine = s.abortLine := rfl
@[simp] theorem drawBit_resetLine_same (s : State) : (s.drawBit.2).resetLine = s.resetLine := rfl
@[simp] theorem drawBit_mem_same (s : State) : (s.drawBit.2).mem = s.mem := rfl
@[simp] theorem drawBit_cfg_same (s : State) : (s.drawBit.2).cfg = s.cfg := rfl

@[simp] theorem drawWord_a_same (s : State) : (s.drawWord.2).a = s.a := rfl
@[simp] theorem drawWord_x_same (s : State) : (s.drawWord.2).x = s.x := rfl
@[simp] theorem drawWord_y_same (s : State) : (s.drawWord.2).y = s.y := rfl
@[simp] theorem drawWord_d_same (s : State) : (s.drawWord.2).d = s.d := rfl
@[simp] theorem drawWord_sp_same (s : State) : (s.drawWord.2).sp = s.sp := rfl
@[simp] theorem drawWord_pc_same (s : State) : (s.drawWord.2).pc = s.pc := rfl
@[simp] theorem drawWord_dbr_same (s : State) : (s.drawWord.2).dbr = s.dbr := rfl
@[simp] theorem drawWord_pbr_same (s : State) : (s.drawWord.2).pbr = s.pbr := rfl
@[simp] theorem drawWord_p_same (s : State) : (s.drawWord.2).p = s.p := rfl
@[simp] theorem drawWord_e_same (s : State) : (s.drawWord.2).e = s.e := rfl
@[simp] theorem drawWord_run_same (s : State) : (s.drawWord.2).run = s.run := rfl
@[simp] theorem drawWord_nmiPending_same (s : State) : (s.drawWord.2).nmiPending = s.nmiPending := rfl
@[simp] theorem drawWord_irqLine_same (s : State) : (s.drawWord.2).irqLine = s.irqLine := rfl
@[simp] theorem drawWord_abortLine_same (s : State) : (s.drawWord.2).abortLine = s.abortLine := rfl
@[simp] theorem drawWord_resetLine_same (s : State) : (s.drawWord.2).resetLine = s.resetLine := rfl
@[simp] theorem drawWord_mem_same (s : State) : (s.drawWord.2).mem = s.mem := rfl
@[simp] theorem drawWord_cfg_same (s : State) : (s.drawWord.2).cfg = s.cfg := rfl

@[simp] theorem clearIndexHigh_a_same (s : State) : (s.clearIndexHigh).a = s.a := rfl
@[simp] theorem clearIndexHigh_d_same (s : State) : (s.clearIndexHigh).d = s.d := rfl
@[simp] theorem clearIndexHigh_sp_same (s : State) : (s.clearIndexHigh).sp = s.sp := rfl
@[simp] theorem clearIndexHigh_pc_same (s : State) : (s.clearIndexHigh).pc = s.pc := rfl
@[simp] theorem clearIndexHigh_dbr_same (s : State) : (s.clearIndexHigh).dbr = s.dbr := rfl
@[simp] theorem clearIndexHigh_pbr_same (s : State) : (s.clearIndexHigh).pbr = s.pbr := rfl
@[simp] theorem clearIndexHigh_p_same (s : State) : (s.clearIndexHigh).p = s.p := rfl
@[simp] theorem clearIndexHigh_e_same (s : State) : (s.clearIndexHigh).e = s.e := rfl
@[simp] theorem clearIndexHigh_run_same (s : State) : (s.clearIndexHigh).run = s.run := rfl
@[simp] theorem clearIndexHigh_nmiPending_same (s : State) : (s.clearIndexHigh).nmiPending = s.nmiPending := rfl
@[simp] theorem clearIndexHigh_irqLine_same (s : State) : (s.clearIndexHigh).irqLine = s.irqLine := rfl
@[simp] theorem clearIndexHigh_abortLine_same (s : State) : (s.clearIndexHigh).abortLine = s.abortLine := rfl
@[simp] theorem clearIndexHigh_resetLine_same (s : State) : (s.clearIndexHigh).resetLine = s.resetLine := rfl
@[simp] theorem clearIndexHigh_mem_same (s : State) : (s.clearIndexHigh).mem = s.mem := rfl
@[simp] theorem clearIndexHigh_draws_same (s : State) : (s.clearIndexHigh).draws = s.draws := rfl
@[simp] theorem clearIndexHigh_cfg_same (s : State) : (s.clearIndexHigh).cfg = s.cfg := rfl

@[simp] theorem writeP_a_same (v : Byte) (s : State) : (s.writeP v).a = s.a := by unfold State.writeP; dsimp only; split <;> rfl
@[simp] theorem writeP_d_same (v : Byte) (s : State) : (s.writeP v).d = s.d := by unfold State.writeP; dsimp only; split <;> rfl
@[simp] theorem writeP_sp_same (v : Byte) (s : State) : (s.writeP v).sp = s.sp := by unfold State.writeP; dsimp only; split <;> rfl
@[simp] theorem writeP_pc_same (v : Byte) (s : State) : (s.writeP v).pc = s.pc := by unfold State.writeP; dsimp only; split <;> rfl
@[simp] theorem writeP_dbr_same (v : Byte) (s : State) : (s.writeP v).dbr = s.dbr := by unfold State.writeP; dsimp only; split <;> rfl
@[simp] theorem writeP_pbr_same (v : Byte) (s : State) : (s.writeP v).pbr = s.pbr := by unfold State.writeP; dsimp only; split <;> rfl
@[simp] theorem writeP_e_same (v : Byte) (s : State) : (s.writeP v).e = s.e := by unfold State.writeP; dsimp only; split <;> rfl
@[simp] theorem writeP_run_same (v : Byte) (s : State) : (s.writeP v).run = s.run := by unfold State.writeP; dsimp only; split <;> rfl
@[simp] theorem writeP_nmiPending_same (v : Byte) (s : State) : (s.writeP v).nmiPending = s.nmiPending := by unfold State.writeP; dsimp only; split <;> rfl
@[simp] theorem writeP_irqLine_same (v : Byte) (s : State) : (s.writeP v).irqLine = s.irqLine := by unfold State.writeP; dsimp only; split <;> rfl
@[simp] theorem writeP_abortLine_same (v : Byte) (s : State) : (s.writeP v).abortLine = s.abortLine := by unfold State.writeP; dsimp only; split <;> rfl
@[simp] theorem writeP_resetLine_same (v : Byte) (s : State) : (s.writeP v).resetLine = s.resetLine := by unfold State.writeP; dsimp only; split <;> rfl
@[simp] theorem writeP_mem_same (v : Byte) (s : State) : (s.writeP v).mem = s.mem := by unfold State.writeP; dsimp only; split <;> rfl
@[simp] theorem writeP_draws_same (v : Byte) (s : State) : (s.writeP v).draws = s.draws := by unfold State.writeP; dsimp only; split <;> rfl
@[simp] theorem writeP_cfg_same (v : Byte) (s : State) : (s.writeP v).cfg = s.cfg := by unfold State.writeP; dsimp only; split <;> rfl

@[simp] theorem advance_a_same (k : Nat) (s : State) : (s.advance k).a = s.a := rfl
@[simp] theorem advance_x_same (k : Nat) (s : State) : (s.advance k).x = s.x := rfl
@[simp] theorem advance_y_same (k : Nat) (s : State) : (s.advance k).y = s.y := rfl
@[simp] theorem advance_d_same (k : Nat) (s : State) : (s.advance k).d = s.d := rfl
@[simp] theorem advance_sp_same (k : Nat) (s : State) : (s.advance k).sp = s.sp := rfl
@[simp] theorem advance_dbr_same (k : Nat) (s : State) : (s.advance k).dbr = s.dbr := rfl
@[simp] theorem advance_pbr_same (k : Nat) (s : State) : (s.advance k).pbr = s.pbr := rfl
@[simp] theorem advance_p_same (k : Nat) (s : State) : (s.advance k).p = s.p := rfl
@[simp] theorem advance_e_same (k : Nat) (s : State) : (s.advance k).e = s.e := rfl
@[simp] theorem advance_run_same (k : Nat) (s : State) : (s.advance k).run = s.run := rfl
@[simp] theorem advance_nmiPending_same (k : Nat) (s : State) : (s.advance k).nmiPending = s.nmiPending := rfl
@[simp] theorem advance_irqLine_same (k : Nat) (s : State) : (s.advance k).irqLine = s.irqLine := rfl
@[simp] theorem advance_abortLine_same (k : Nat) (s : State) : (s.advance k).abortLine = s.abortLine := rfl
@[simp] theorem advance_resetLine_same (k : Nat) (s : State) : (s.advance k).resetLine = s.resetLine := rfl
@[simp] theorem advance_mem_same (k : Nat) (s : State) : (s.advance k).mem = s.mem := rfl
@[simp] theorem advance_draws_same (k : Nat) (s : State) : (s.advance k).draws = s.draws := rfl
@[simp] theorem advance_cfg_same (k : Nat) (s : State) : (s.advance k).cfg = s.cfg := rfl

@[simp] theorem setAcc_x_same (w : Width) (v : BitVec w.bits) (s : State) : (s.setAcc w v).x = s.x := by cases w <;> rfl
@[simp] theorem setAcc_y_same (w : Width) (v : BitVec w.bits) (s : State) : (s.setAcc w v).y = s.y := by cases w <;> rfl
@[simp] theorem setAcc_d_same (w : Width) (v : BitVec w.bits) (s : State) : (s.setAcc w v).d = s.d := by cases w <;> rfl
@[simp] theorem setAcc_sp_same (w : Width) (v : BitVec w.bits) (s : State) : (s.setAcc w v).sp = s.sp := by cases w <;> rfl
@[simp] theorem setAcc_pc_same (w : Width) (v : BitVec w.bits) (s : State) : (s.setAcc w v).pc = s.pc := by cases w <;> rfl
@[simp] theorem setAcc_dbr_same (w : Width) (v : BitVec w.bits) (s : State) : (s.setAcc w v).dbr = s.dbr := by cases w <;> rfl
@[simp] theorem setAcc_pbr_same (w : Width) (v : BitVec w.bits) (s : State) : (s.setAcc w v).pbr = s.pbr := by cases w <;> rfl
@[simp] theorem setAcc_p_same (w : Width) (v : BitVec w.bits) (s : State) : (s.setAcc w v).p = s.p := by cases w <;> rfl
@[simp] theorem setAcc_e_same (w : Width) (v : BitVec w.bits) (s : State) : (s.setAcc w v).e = s.e := by cases w <;> rfl
@[simp] theorem setAcc_run_same (w : Width) (v : BitVec w.bits) (s : State) : (s.setAcc w v).run = s.run := by cases w <;> rfl
@[simp] theorem setAcc_nmiPending_same (w : Width) (v : BitVec w.bits) (s : State) : (s.setAcc w v).nmiPending = s.nmiPending := by cases w <;> rfl
@[simp] theorem setAcc_irqLine_same (w : Width) (v : BitVec w.bits) (s : State) : (s.setAcc w v).irqLine = s.irqLine := by cases w <;> rfl
@[simp] theorem setAcc_abortLine_same (w : Width) (v : BitVec w.bits) (s : State) : (s.setAcc w v).abortLine = s.abortLine := by cases w <;> rfl
@[simp] theorem setAcc_resetLine_same (w : Width) (v : BitVec w.bits) (s : State) : (s.setAcc w v).resetLine = s.resetLine := by cases w <;> rfl
@[simp] theorem setAcc_mem_same (w : Width) (v : BitVec w.bits) (s : State) : (s.setAcc w v).mem = s.mem := by cases w <;> rfl
@[simp] theorem setAcc_draws_same (w : Width) (v : BitVec w.bits) (s : State) : (s.setAcc w v).draws = s.draws := by cases w <;> rfl
@[simp] theorem setAcc_cfg_same (w : Width) (v : BitVec w.bits) (s : State) : (s.setAcc w v).cfg = s.cfg := by cases w <;> rfl

@[simp] theorem setX_a_same {n : Nat} (v : BitVec n) (s : State) : (s.setX v).a = s.a := rfl
@[simp] theorem setX_y_same {n : Nat} (v : BitVec n) (s : State) : (s.setX v).y = s.y := rfl
@[simp] theorem setX_d_same {n : Nat} (v : BitVec n) (s : State) : (s.setX v).d = s.d := rfl
@[simp] theorem setX_sp_same {n : Nat} (v : BitVec n) (s : State) : (s.setX v).sp = s.sp := rfl
@[simp] theorem setX_pc_same {n : Nat} (v : BitVec n) (s : State) : (s.setX v).pc = s.pc := rfl
@[simp] theorem setX_dbr_same {n : Nat} (v : BitVec n) (s : State) : (s.setX v).dbr = s.dbr := rfl
@[simp] theorem setX_pbr_same {n : Nat} (v : BitVec n) (s : State) : (s.setX v).pbr = s.pbr := rfl
@[simp] theorem setX_p_same {n : Nat} (v : BitVec n) (s : State) : (s.setX v).p = s.p := rfl
@[simp] theorem setX_e_same {n : Nat} (v : BitVec n) (s : State) : (s.setX v).e = s.e := rfl
@[simp] theorem setX_run_same {n : Nat} (v : BitVec n) (s : State) : (s.setX v).run = s.run := rfl
@[simp] theorem setX_nmiPending_same {n : Nat} (v : BitVec n) (s : State) : (s.setX v).nmiPending = s.nmiPending := rfl
@[simp] theorem setX_irqLine_same {n : Nat} (v : BitVec n) (s : State) : (s.setX v).irqLine = s.irqLine := rfl
@[simp] theorem setX_abortLine_same {n : Nat} (v : BitVec n) (s : State) : (s.setX v).abortLine = s.abortLine := rfl
@[simp] theorem setX_resetLine_same {n : Nat} (v : BitVec n) (s : State) : (s.setX v).resetLine = s.resetLine := rfl
@[simp] theorem setX_mem_same {n : Nat} (v : BitVec n) (s : State) : (s.setX v).mem = s.mem := rfl
@[simp] theorem setX_draws_same {n : Nat} (v : BitVec n) (s : State) : (s.setX v).draws = s.draws := rfl
@[simp] theorem setX_cfg_same {n : Nat} (v : BitVec n) (s : State) : (s.setX v).cfg = s.cfg := rfl

@[simp] theorem setY_a_same {n : Nat} (v : BitVec n) (s : State) : (s.setY v).a = s.a := rfl
@[simp] theorem setY_x_same {n : Nat} (v : BitVec n) (s : State) : (s.setY v).x = s.x := rfl
@[simp] theorem setY_d_same {n : Nat} (v : BitVec n) (s : State) : (s.setY v).d = s.d := rfl
@[simp] theorem setY_sp_same {n : Nat} (v : BitVec n) (s : State) : (s.setY v).sp = s.sp := rfl
@[simp] theorem setY_pc_same {n : Nat} (v : BitVec n) (s : State) : (s.setY v).pc = s.pc := rfl
@[simp] theorem setY_dbr_same {n : Nat} (v : BitVec n) (s : State) : (s.setY v).dbr = s.dbr := rfl
@[simp] theorem setY_pbr_same {n : Nat} (v : BitVec n) (s : State) : (s.setY v).pbr = s.pbr := rfl
@[simp] theorem setY_p_same {n : Nat} (v : BitVec n) (s : State) : (s.setY v).p = s.p := rfl
@[simp] theorem setY_e_same {n : Nat} (v : BitVec n) (s : State) : (s.setY v).e = s.e := rfl
@[simp] theorem setY_run_same {n : Nat} (v : BitVec n) (s : State) : (s.setY v).run = s.run := rfl
@[simp] theorem setY_nmiPending_same {n : Nat} (v : BitVec n) (s : State) : (s.setY v).nmiPending = s.nmiPending := rfl
@[simp] theorem setY_irqLine_same {n : Nat} (v : BitVec n) (s : State) : (s.setY v).irqLine = s.irqLine := rfl
@[simp] theorem setY_abortLine_same {n : Nat} (v : BitVec n) (s : State) : (s.setY v).abortLine = s.abortLine := rfl
@[simp] theorem setY_resetLine_same {n : Nat} (v : BitVec n) (s : State) : (s.setY v).resetLine = s.resetLine := rfl
@[simp] theorem setY_mem_same {n : Nat} (v : BitVec n) (s : State) : (s.setY v).mem = s.mem := rfl
@[simp] theorem setY_draws_same {n : Nat} (v : BitVec n) (s : State) : (s.setY v).draws = s.draws := rfl
@[simp] theorem setY_cfg_same {n : Nat} (v : BitVec n) (s : State) : (s.setY v).cfg = s.cfg := rfl

@[simp] theorem push8_a_same (v : Byte) (s : State) : (s.push8 v).a = s.a := rfl
@[simp] theorem push8_x_same (v : Byte) (s : State) : (s.push8 v).x = s.x := rfl
@[simp] theorem push8_y_same (v : Byte) (s : State) : (s.push8 v).y = s.y := rfl
@[simp] theorem push8_d_same (v : Byte) (s : State) : (s.push8 v).d = s.d := rfl
@[simp] theorem push8_pc_same (v : Byte) (s : State) : (s.push8 v).pc = s.pc := rfl
@[simp] theorem push8_dbr_same (v : Byte) (s : State) : (s.push8 v).dbr = s.dbr := rfl
@[simp] theorem push8_pbr_same (v : Byte) (s : State) : (s.push8 v).pbr = s.pbr := rfl
@[simp] theorem push8_p_same (v : Byte) (s : State) : (s.push8 v).p = s.p := rfl
@[simp] theorem push8_e_same (v : Byte) (s : State) : (s.push8 v).e = s.e := rfl
@[simp] theorem push8_run_same (v : Byte) (s : State) : (s.push8 v).run = s.run := rfl
@[simp] theorem push8_nmiPending_same (v : Byte) (s : State) : (s.push8 v).nmiPending = s.nmiPending := rfl
@[simp] theorem push8_irqLine_same (v : Byte) (s : State) : (s.push8 v).irqLine = s.irqLine := rfl
@[simp] theorem push8_abortLine_same (v : Byte) (s : State) : (s.push8 v).abortLine = s.abortLine := rfl
@[simp] theorem push8_resetLine_same (v : Byte) (s : State) : (s.push8 v).resetLine = s.resetLine := rfl
@[simp] theorem push8_draws_same (v : Byte) (s : State) : (s.push8 v).draws = s.draws := rfl
@[simp] theorem push8_cfg_same (v : Byte) (s : State) : (s.push8 v).cfg = s.cfg := rfl

@[simp] theorem push16_a_same (v : Word) (s : State) : (s.push16 v).a = s.a := rfl
@[simp] theorem push16_x_same (v : Word) (s : State) : (s.push16 v).x = s.x := rfl
@[simp] theorem push16_y_same (v : Word) (s : State) : (s.push16 v).y = s.y := rfl
@[simp] theorem push16_d_same (v : Word) (s : State) : (s.push16 v).d = s.d := rfl
@[simp] theorem push16_pc_same (v : Word) (s : State) : (s.push16 v).pc = s.pc := rfl
@[simp] theorem push16_dbr_same (v : Word) (s : State) : (s.push16 v).dbr = s.dbr := rfl
@[simp] theorem push16_pbr_same (v : Word) (s : State) : (s.push16 v).pbr = s.pbr := rfl
@[simp] theorem push16_p_same (v : Word) (s : State) : (s.push16 v).p = s.p := rfl
@[simp] theorem push16_e_same (v : Word) (s : State) : (s.push16 v).e = s.e := rfl
@[simp] theorem push16_run_same (v : Word) (s : State) : (s.push16 v).run = s.run := rfl
@[simp] theorem push16_nmiPending_same (v : Word) (s : State) : (s.push16 v).nmiPending = s.nmiPending := rfl
@[simp] theorem push16_irqLine_same (v : Word) (s : State) : (s.push16 v).irqLine = s.irqLine := rfl
@[simp] theorem push16_abortLine_same (v : Word) (s : State) : (s.push16 v).abortLine = s.abortLine := rfl
@[simp] theorem push16_resetLine_same (v : Word) (s : State) : (s.push16 v).resetLine = s.resetLine := rfl
@[simp] theorem push16_draws_same (v : Word) (s : State) : (s.push16 v).draws = s.draws := rfl
@[simp] theorem push16_cfg_same (v : Word) (s : State) : (s.push16 v).cfg = s.cfg := rfl

@[simp] theorem pushW_a_same (w : Width) (v : BitVec w.bits) (s : State) : (s.pushW w v).a = s.a := by cases w <;> rfl
@[simp] theorem pushW_x_same (w : Width) (v : BitVec w.bits) (s : State) : (s.pushW w v).x = s.x := by cases w <;> rfl
@[simp] theorem pushW_y_same (w : Width) (v : BitVec w.bits) (s : State) : (s.pushW w v).y = s.y := by cases w <;> rfl
@[simp] theorem pushW_d_same (w : Width) (v : BitVec w.bits) (s : State) : (s.pushW w v).d = s.d := by cases w <;> rfl
@[simp] theorem pushW_pc_same (w : Width) (v : BitVec w.bits) (s : State) : (s.pushW w v).pc = s.pc := by cases w <;> rfl
@[simp] theorem pushW_dbr_same (w : Width) (v : BitVec w.bits) (s : State) : (s.pushW w v).dbr = s.dbr := by cases w <;> rfl
@[simp] theorem pushW_pbr_same (w : Width) (v : BitVec w.bits) (s : State) : (s.pushW w v).pbr = s.pbr := by cases w <;> rfl
@[simp] theorem pushW_p_same (w : Width) (v : BitVec w.bits) (s : State) : (s.pushW w v).p = s.p := by cases w <;> rfl
@[simp] theorem pushW_e_same (w : Width) (v : BitVec w.bits) (s : State) : (s.pushW w v).e = s.e := by cases w <;> rfl
@[simp] theorem pushW_run_same (w : Width) (v : BitVec w.bits) (s : State) : (s.pushW w v).run = s.run := by cases w <;> rfl
@[simp] theorem pushW_nmiPending_same (w : Width) (v : BitVec w.bits) (s : State) : (s.pushW w v).nmiPending = s.nmiPending := by cases w <;> rfl
@[simp] theorem pushW_irqLine_same (w : Width) (v : BitVec w.bits) (s : State) : (s.pushW w v).irqLine = s.irqLine := by cases w <;> rfl
@[simp] theorem pushW_abortLine_same (w : Width) (v : BitVec w.bits) (s : State) : (s.pushW w v).abortLine = s.abortLine := by cases w <;> rfl
@[simp] theorem pushW_resetLine_same (w : Width) (v : BitVec w.bits) (s : State) : (s.pushW w v).resetLine = s.resetLine := by cases w <;> rfl
@[simp] theorem pushW_draws_same (w : Width) (v : BitVec w.bits) (s : State) : (s.pushW w v).draws = s.draws := by cases w <;> rfl
@[simp] theorem pushW_cfg_same (w : Width) (v : BitVec w.bits) (s : State) : (s.pushW w v).cfg = s.cfg := by cases w <;> rfl

@[simp] theorem pull8_a_same (s : State) : (s.pull8.2).a = s.a := rfl
@[simp] theorem pull8_x_same (s : State) : (s.pull8.2).x = s.x := rfl
@[simp] theorem pull8_y_same (s : State) : (s.pull8.2).y = s.y := rfl
@[simp] theorem pull8_d_same (s : State) : (s.pull8.2).d = s.d := rfl
@[simp] theorem pull8_pc_same (s : State) : (s.pull8.2).pc = s.pc := rfl
@[simp] theorem pull8_dbr_same (s : State) : (s.pull8.2).dbr = s.dbr := rfl
@[simp] theorem pull8_pbr_same (s : State) : (s.pull8.2).pbr = s.pbr := rfl
@[simp] theorem pull8_p_same (s : State) : (s.pull8.2).p = s.p := rfl
@[simp] theorem pull8_e_same (s : State) : (s.pull8.2).e = s.e := rfl
@[simp] theorem pull8_run_same (s : State) : (s.pull8.2).run = s.run := rfl
@[simp] theorem pull8_nmiPending_same (s : State) : (s.pull8.2).nmiPending = s.nmiPending := rfl
@[simp] theorem pull8_irqLine_same (s : State) : (s.pull8.2).irqLine = s.irqLine := rfl
@[simp] theorem pull8_abortLine_same (s : State) : (s.pull8.2).abortLine = s.abortLine := rfl
@[simp] theorem pull8_resetLine_same (s : State) : (s.pull8.2).resetLine = s.resetLine := rfl
@[simp] theorem pull8_mem_same (s : State) : (s.pull8.2).mem = s.mem := rfl
@[simp] theorem pull8_draws_same (s : State) : (s.pull8.2).draws = s.draws := rfl
@[simp] theorem pull8_cfg_same (s : State) : (s.pull8.2).cfg = s.cfg := rfl

@[simp] theorem pull16_a_same (s : State) : (s.pull16.2).a = s.a := rfl
@[simp] theorem pull16_x_same (s : State) : (s.pull16.2).x = s.x := rfl
@[simp] theorem pull16_y_same (s : State) : (s.pull16.2).y = s.y := rfl
@[simp] theorem pull16_d_same (s : State) : (s.pull16.2).d = s.d := rfl
@[simp] theorem pull16_pc_same (s : State) : (s.pull16.2).pc = s.pc := rfl
@[simp] theorem pull16_dbr_same (s : State) : (s.pull16.2).dbr = s.dbr := rfl
@[simp] theorem pull16_pbr_same (s : State) : (s.pull16.2).pbr = s.pbr := rfl
@[simp] theorem pull16_p_same (s : State) : (s.pull16.2).p = s.p := rfl
@[simp] theorem pull16_e_same (s : State) : (s.pull16.2).e = s.e := rfl
@[simp] theorem pull16_run_same (s : State) : (s.pull16.2).run = s.run := rfl
@[simp] theorem pull16_nmiPending_same (s : State) : (s.pull16.2).nmiPending = s.nmiPending := rfl
@[simp] theorem pull16_irqLine_same (s : State) : (s.pull16.2).irqLine = s.irqLine := rfl
@[simp] theorem pull16_abortLine_same (s : State) : (s.pull16.2).abortLine = s.abortLine := rfl
@[simp] theorem pull16_resetLine_same (s : State) : (s.pull16.2).resetLine = s.resetLine := rfl
@[simp] theorem pull16_mem_same (s : State) : (s.pull16.2).mem = s.mem := rfl
@[simp] theorem pull16_draws_same (s : State) : (s.pull16.2).draws = s.draws := rfl
@[simp] theorem pull16_cfg_same (s : State) : (s.pull16.2).cfg = s.cfg := rfl

@[simp] theorem pullW_a_same (w : Width) (s : State) : ((s.pullW w).2).a = s.a := by cases w <;> rfl
@[simp] theorem pullW_x_same (w : Width) (s : State) : ((s.pullW w).2).x = s.x := by cases w <;> rfl
@[simp] theorem pullW_y_same (w : Width) (s : State) : ((s.pullW w).2).y = s.y := by cases w <;> rfl
@[simp] theorem pullW_d_same (w : Width) (s : State) : ((s.pullW w).2).d = s.d := by cases w <;> rfl
@[simp] theorem pullW_pc_same (w : Width) (s : State) : ((s.pullW w).2).pc = s.pc := by cases w <;> rfl
@[simp] theorem pullW_dbr_same (w : Width) (s : State) : ((s.pullW w).2).dbr = s.dbr := by cases w <;> rfl
@[simp] theorem pullW_pbr_same (w : Width) (s : State) : ((s.pullW w).2).pbr = s.pbr := by cases w <;> rfl
@[simp] theorem pullW_p_same (w : Width) (s : State) : ((s.pullW w).2).p = s.p := by cases w <;> rfl
@[simp] theorem pullW_e_same (w : Width) (s : State) : ((s.pullW w).2).e = s.e := by cases w <;> rfl
@[simp] theorem pullW_run_same (w : Width) (s : State) : ((s.pullW w).2).run = s.run := by cases w <;> rfl
@[simp] theorem pullW_nmiPending_same (w : Width) (s : State) : ((s.pullW w).2).nmiPending = s.nmiPending := by cases w <;> rfl
@[simp] theorem pullW_irqLine_same (w : Width) (s : State) : ((s.pullW w).2).irqLine = s.irqLine := by cases w <;> rfl
@[simp] theorem pullW_abortLine_same (w : Width) (s : State) : ((s.pullW w).2).abortLine = s.abortLine := by cases w <;> rfl
@[simp] theorem pullW_resetLine_same (w : Width) (s : State) : ((s.pullW w).2).resetLine = s.resetLine := by cases w <;> rfl
@[simp] theorem pullW_mem_same (w : Width) (s : State) : ((s.pullW w).2).mem = s.mem := by cases w <;> rfl
@[simp] theorem pullW_draws_same (w : Width) (s : State) : ((s.pullW w).2).draws = s.draws := by cases w <;> rfl
@[simp] theorem pullW_cfg_same (w : Width) (s : State) : ((s.pullW w).2).cfg = s.cfg := by cases w <;> rfl

@[simp] theorem pushFrame_a_same (k : Trap) (r : Word) (s : State) : (s.pushFrame k r).a = s.a := by unfold State.pushFrame; split <;> rfl
@[simp] theorem pushFrame_x_same (k : Trap) (r : Word) (s : State) : (s.pushFrame k r).x = s.x := by unfold State.pushFrame; split <;> rfl
@[simp] theorem pushFrame_y_same (k : Trap) (r : Word) (s : State) : (s.pushFrame k r).y = s.y := by unfold State.pushFrame; split <;> rfl
@[simp] theorem pushFrame_d_same (k : Trap) (r : Word) (s : State) : (s.pushFrame k r).d = s.d := by unfold State.pushFrame; split <;> rfl
@[simp] theorem pushFrame_pc_same (k : Trap) (r : Word) (s : State) : (s.pushFrame k r).pc = s.pc := by unfold State.pushFrame; split <;> rfl
@[simp] theorem pushFrame_dbr_same (k : Trap) (r : Word) (s : State) : (s.pushFrame k r).dbr = s.dbr := by unfold State.pushFrame; split <;> rfl
@[simp] theorem pushFrame_pbr_same (k : Trap) (r : Word) (s : State) : (s.pushFrame k r).pbr = s.pbr := by unfold State.pushFrame; split <;> rfl
@[simp] theorem pushFrame_p_same (k : Trap) (r : Word) (s : State) : (s.pushFrame k r).p = s.p := by unfold State.pushFrame; split <;> rfl
@[simp] theorem pushFrame_e_same (k : Trap) (r : Word) (s : State) : (s.pushFrame k r).e = s.e := by unfold State.pushFrame; split <;> rfl
@[simp] theorem pushFrame_run_same (k : Trap) (r : Word) (s : State) : (s.pushFrame k r).run = s.run := by unfold State.pushFrame; split <;> rfl
@[simp] theorem pushFrame_nmiPending_same (k : Trap) (r : Word) (s : State) : (s.pushFrame k r).nmiPending = s.nmiPending := by unfold State.pushFrame; split <;> rfl
@[simp] theorem pushFrame_irqLine_same (k : Trap) (r : Word) (s : State) : (s.pushFrame k r).irqLine = s.irqLine := by unfold State.pushFrame; split <;> rfl
@[simp] theorem pushFrame_abortLine_same (k : Trap) (r : Word) (s : State) : (s.pushFrame k r).abortLine = s.abortLine := by unfold State.pushFrame; split <;> rfl
@[simp] theorem pushFrame_resetLine_same (k : Trap) (r : Word) (s : State) : (s.pushFrame k r).resetLine = s.resetLine := by unfold State.pushFrame; split <;> rfl
@[simp] theorem pushFrame_draws_same (k : Trap) (r : Word) (s : State) : (s.pushFrame k r).draws = s.draws := by unfold State.pushFrame; split <;> rfl
@[simp] theorem pushFrame_cfg_same (k : Trap) (r : Word) (s : State) : (s.pushFrame k r).cfg = s.cfg := by unfold State.pushFrame; split <;> rfl

@[simp] theorem setCarry_a_same (c : Option Bool) (s : State) : (s.setCarry c).a = s.a := by cases c <;> rfl
@[simp] theorem setCarry_x_same (c : Option Bool) (s : State) : (s.setCarry c).x = s.x := by cases c <;> rfl
@[simp] theorem setCarry_y_same (c : Option Bool) (s : State) : (s.setCarry c).y = s.y := by cases c <;> rfl
@[simp] theorem setCarry_d_same (c : Option Bool) (s : State) : (s.setCarry c).d = s.d := by cases c <;> rfl
@[simp] theorem setCarry_sp_same (c : Option Bool) (s : State) : (s.setCarry c).sp = s.sp := by cases c <;> rfl
@[simp] theorem setCarry_pc_same (c : Option Bool) (s : State) : (s.setCarry c).pc = s.pc := by cases c <;> rfl
@[simp] theorem setCarry_dbr_same (c : Option Bool) (s : State) : (s.setCarry c).dbr = s.dbr := by cases c <;> rfl
@[simp] theorem setCarry_pbr_same (c : Option Bool) (s : State) : (s.setCarry c).pbr = s.pbr := by cases c <;> rfl
@[simp] theorem setCarry_e_same (c : Option Bool) (s : State) : (s.setCarry c).e = s.e := by cases c <;> rfl
@[simp] theorem setCarry_run_same (c : Option Bool) (s : State) : (s.setCarry c).run = s.run := by cases c <;> rfl
@[simp] theorem setCarry_nmiPending_same (c : Option Bool) (s : State) : (s.setCarry c).nmiPending = s.nmiPending := by cases c <;> rfl
@[simp] theorem setCarry_irqLine_same (c : Option Bool) (s : State) : (s.setCarry c).irqLine = s.irqLine := by cases c <;> rfl
@[simp] theorem setCarry_abortLine_same (c : Option Bool) (s : State) : (s.setCarry c).abortLine = s.abortLine := by cases c <;> rfl
@[simp] theorem setCarry_resetLine_same (c : Option Bool) (s : State) : (s.setCarry c).resetLine = s.resetLine := by cases c <;> rfl
@[simp] theorem setCarry_mem_same (c : Option Bool) (s : State) : (s.setCarry c).mem = s.mem := by cases c <;> rfl
@[simp] theorem setCarry_draws_same (c : Option Bool) (s : State) : (s.setCarry c).draws = s.draws := by cases c <;> rfl
@[simp] theorem setCarry_cfg_same (c : Option Bool) (s : State) : (s.setCarry c).cfg = s.cfg := by cases c <;> rfl

@[simp] theorem quiet_a_same (s : State) : (s.quiet).a = s.a := rfl
@[simp] theorem quiet_x_same (s : State) : (s.quiet).x = s.x := rfl
@[simp] theorem quiet_y_same (s : State) : (s.quiet).y = s.y := rfl
@[simp] theorem quiet_d_same (s : State) : (s.quiet).d = s.d := rfl
@[simp] theorem quiet_sp_same (s : State) : (s.quiet).sp = s.sp := rfl
@[simp] theorem quiet_pc_same (s : State) : (s.quiet).pc = s.pc := rfl
@[simp] theorem quiet_dbr_same (s : State) : (s.quiet).dbr = s.dbr := rfl
@[simp] theorem quiet_pbr_same (s : State) : (s.quiet).pbr = s.pbr := rfl
@[simp] theorem quiet_p_same (s : State) : (s.quiet).p = s.p := rfl
@[simp] theorem quiet_e_same (s : State) : (s.quiet).e = s.e := rfl
@[simp] theorem quiet_mem_same (s : State) : (s.quiet).mem = s.mem := rfl
@[simp] theorem quiet_draws_same (s : State) : (s.quiet).draws = s.draws := rfl
@[simp] theorem quiet_cfg_same (s : State) : (s.quiet).cfg = s.cfg := rfl

@[simp] theorem setFlag_p (s : State) (f : Flag) (b : Bool) :
    (s.setFlag f b).p = withFlag s.p f b := rfl
@[simp] theorem setNZ_p {n : Nat} (v : BitVec n) (s : State) :
    (s.setNZ v).p = withFlag (withFlag s.p .n v.msb) .z (decide (v = 0)) := rfl
@[simp] theorem setFlagFree_p (s : State) (f : Flag) :
    (s.setFlagFree f).p = withFlag s.p f (Config.freeBit s.draws) := rfl
@[simp] theorem setFlagFree_draws (s : State) (f : Flag) :
    (s.setFlagFree f).draws = s.draws + 1 := rfl
@[simp] theorem drawWord_val (s : State) :
    s.drawWord.1 = Config.freeWord s.draws := rfl
@[simp] theorem drawWord_draws (s : State) :
    s.drawWord.2.draws = s.draws + 1 := rfl
@[simp] theorem drawBit_draws (s : State) :
    s.drawBit.2.draws = s.draws + 1 := rfl
@[simp] theorem clearIndexHigh_x (s : State) :
    s.clearIndexHigh.x = word 0 (lo s.x) := rfl
@[simp] theorem clearIndexHigh_y (s : State) :
    s.clearIndexHigh.y = word 0 (lo s.y) := rfl
@[simp] theorem writeP_p (v : Byte) (s : State) :
    (s.writeP v).p = writtenP s.e v := by unfold State.writeP; dsimp only; split <;> rfl
@[simp] theorem writeP_x (v : Byte) (s : State) :
    (s.writeP v).x = if flagOf (writtenP s.e v) .x then word 0 (lo s.x) else s.x := by unfold State.writeP State.flag; dsimp only; split <;> rfl
@[simp] theorem writeP_y (v : Byte) (s : State) :
    (s.writeP v).y = if flagOf (writtenP s.e v) .x then word 0 (lo s.y) else s.y := by unfold State.writeP State.flag; dsimp only; split <;> rfl
@[simp] theorem advance_pc (k : Nat) (s : State) :
    (s.advance k).pc = s.pc + BitVec.ofNat 16 k := rfl
@[simp] theorem setAcc_w8_a (v : Byte) (s : State) :
    (s.setAcc .w8 v).a = word (hi s.a) v := rfl
@[simp] theorem setAcc_w16_a (v : Word) (s : State) :
    (s.setAcc .w16 v).a = v := rfl
@[simp] theorem setX_x {n : Nat} (v : BitVec n) (s : State) :
    (s.setX v).x = v.setWidth 16 := rfl
@[simp] theorem setY_y {n : Nat} (v : BitVec n) (s : State) :
    (s.setY v).y = v.setWidth 16 := rfl
@[simp] theorem push8_mem (v : Byte) (s : State) :
    (s.push8 v).mem = s.mem.write (addr 0 s.sp) v := rfl
@[simp] theorem push8_sp (v : Byte) (s : State) :
    (s.push8 v).sp = pushedSp s.e s.sp := rfl
@[simp] theorem push16_mem (v : Word) (s : State) :
    (s.push16 v).mem = (s.mem.write (addr 0 s.sp) (hi v)).write (addr 0 (pushedSp s.e s.sp)) (lo v) := rfl
@[simp] theorem push16_sp (v : Word) (s : State) :
    (s.push16 v).sp = pushedSp s.e (pushedSp s.e s.sp) := rfl
@[simp] theorem pull8_val (s : State) :
    s.pull8.1 = s.mem.read (addr 0 (pulledSp s.e s.sp)) := rfl
@[simp] theorem pull8_sp (s : State) :
    s.pull8.2.sp = pulledSp s.e s.sp := rfl
@[simp] theorem pull16_val (s : State) :
    s.pull16.1 = word (s.mem.read (addr 0 (pulledSp s.e (pulledSp s.e s.sp)))) (s.mem.read (addr 0 (pulledSp s.e s.sp))) := rfl
@[simp] theorem pull16_sp (s : State) :
    s.pull16.2.sp = pulledSp s.e (pulledSp s.e s.sp) := rfl
@[simp] theorem pushW_w8 (v : Byte) (s : State) :
    s.pushW .w8 v = s.push8 v := rfl
@[simp] theorem pushW_w16 (v : Word) (s : State) :
    s.pushW .w16 v = s.push16 v := rfl
@[simp] theorem pullW_w8 (s : State) :
    s.pullW .w8 = s.pull8 := rfl
@[simp] theorem pullW_w16 (s : State) :
    s.pullW .w16 = s.pull16 := rfl
@[simp] theorem setCarry_none (s : State) :
    s.setCarry none = s := rfl
@[simp] theorem setCarry_some (s : State) (b : Bool) :
    s.setCarry (some b) = s.setFlag .c b := rfl
@[simp] theorem quiet_run (s : State) :
    s.quiet.run = .running := rfl
@[simp] theorem quiet_nmiPending (s : State) :
    s.quiet.nmiPending = false := rfl
@[simp] theorem quiet_irqLine (s : State) :
    s.quiet.irqLine = false := rfl
@[simp] theorem quiet_abortLine (s : State) :
    s.quiet.abortLine = false := rfl
@[simp] theorem quiet_resetLine (s : State) :
    s.quiet.resetLine = false := rfl

/-- A flag of the state is that flag of `P`. -/
theorem flag_def (s : State) (f : Flag) : s.flag f = flagOf s.p f := rfl

@[simp] theorem setFlag_flag (s : State) (f g : Flag) (b : Bool) :
    (s.setFlag f b).flag g = if g = f then b else s.flag g := flagOf_withFlag _ _ _ _

@[simp] theorem setNZ_flag {n : Nat} (v : BitVec n) (s : State) (g : Flag) :
    (s.setNZ v).flag g = if g = .z then decide (v = 0) else if g = .n then v.msb else s.flag g := by
  simp [flag_def, flagOf_withFlag]

@[simp] theorem setFlagFree_flag (s : State) (f g : Flag) :
    (s.setFlagFree f).flag g = if g = f then Config.freeBit s.draws else s.flag g := flagOf_withFlag _ _ _ _

/-- The width predicates read `E` and `P` only. -/
theorem m8_congr {s t : State} (he : t.e = s.e) (hm : t.flag .m = s.flag .m) : t.m8 = s.m8 := by
  simp [State.m8, he, hm]

theorem x8_congr {s t : State} (he : t.e = s.e) (hx : t.flag .x = s.flag .x) : t.x8 = s.x8 := by
  simp [State.x8, he, hx]

end Sys2Proof.Machine
end

