-- ==== Sys2Proof/Laws/Frames.lean ====
section
/-! SUPPORT. The frame of every shared operation: which fields of the state it can change. Each lemma says that every
other field is as it was; the fields it names are read off the operation by its own lemmas. -/

namespace Sys2Proof.Machine

theorem loadA_frame (op : Byte) (o : DataOperand) (s : State) :
    loadA op o s = { s with a := (loadA op o s).a, p := (loadA op o s).p } := by
  apply State.ext <;> simp [loadA]

theorem loadX_frame (op : Byte) (o : DataOperand) (s : State) :
    loadX op o s = { s with x := (loadX op o s).x, p := (loadX op o s).p } := by
  apply State.ext <;> simp [loadX]

theorem loadY_frame (op : Byte) (o : DataOperand) (s : State) :
    loadY op o s = { s with y := (loadY op o s).y, p := (loadY op o s).p } := by
  apply State.ext <;> simp [loadY]

theorem storeOperand_frame (w : Width) (op : Byte) (m : Mode) (v : BitVec w.bits) (s : State) :
    storeOperand w op m v s = { s with mem := (storeOperand w op m v s).mem } := by
  apply State.ext <;> simp [storeOperand]

theorem storeA_frame (op : Byte) (m : Mode) (s : State) :
    storeA op m s = { s with mem := (storeA op m s).mem } := by
  apply State.ext <;> simp [storeA, storeOperand]

theorem storeX_frame (op : Byte) (m : Mode) (s : State) :
    storeX op m s = { s with mem := (storeX op m s).mem } := by
  apply State.ext <;> simp [storeX, storeOperand]

theorem storeY_frame (op : Byte) (m : Mode) (s : State) :
    storeY op m s = { s with mem := (storeY op m s).mem } := by
  apply State.ext <;> simp [storeY, storeOperand]

theorem storeZ_frame (op : Byte) (m : Mode) (s : State) :
    storeZ op m s = { s with mem := (storeZ op m s).mem } := by
  apply State.ext <;> simp [storeZ, storeOperand]

theorem setArith_frame (w : Width) (r : Arith w.bits) (s : State) :
    setArith w r s = { s with a := (setArith w r s).a, p := (setArith w r s).p } := by
  apply State.ext <;> simp [setArith]

theorem setDecimal_frame (w : Width) (r : BitVec w.bits × Bool) (s : State) :
    setDecimal w r s = { s with a := (setDecimal w r s).a, p := (setDecimal w r s).p, draws := (setDecimal w r s).draws } := by
  apply State.ext <;> simp [setDecimal]

theorem setUnspecified_frame (w : Width) (s : State) :
    setUnspecified w s = { s with a := (setUnspecified w s).a, p := (setUnspecified w s).p, draws := (setUnspecified w s).draws } := by
  apply State.ext <;> simp [setUnspecified]

theorem decimalOp_frame (g : DecimalDef) (f : DecimalFn) (w : Width) (a m : BitVec w.bits) (s : State) :
    decimalOp g f w a m s = { s with a := (decimalOp g f w a m s).a, p := (decimalOp g f w a m s).p, draws := (decimalOp g f w a m s).draws } := by
  unfold decimalOp; split
  · split
    · exact setDecimal_frame _ _ _
    · exact setUnspecified_frame _ _
  · apply State.ext <;> simp [setArith]

theorem adc_frame (op : Byte) (o : DataOperand) (s : State) :
    adc op o s = { s with a := (adc op o s).a, p := (adc op o s).p, draws := (adc op o s).draws } := by
  unfold adc; dsimp only; split
  · exact decimalOp_frame _ _ _ _ _ _
  · apply State.ext <;> simp [setArith]

theorem sbc_frame (op : Byte) (o : DataOperand) (s : State) :
    sbc op o s = { s with a := (sbc op o s).a, p := (sbc op o s).p, draws := (sbc op o s).draws } := by
  unfold sbc; dsimp only; split
  · exact decimalOp_frame _ _ _ _ _ _
  · apply State.ext <;> simp [setArith]

theorem logic_frame (f : (n : Nat) → BitVec n → BitVec n → BitVec n) (op : Byte) (o : DataOperand) (s : State) :
    logic f op o s = { s with a := (logic f op o s).a, p := (logic f op o s).p } := by
  apply State.ext <;> simp [logic]

theorem setCompare_frame {n : Nat} (r m : BitVec n) (s : State) :
    setCompare r m s = { s with p := (setCompare r m s).p } := by
  apply State.ext <;> simp [setCompare]

theorem testZ_frame {n : Nat} (a m : BitVec n) (s : State) :
    testZ a m s = { s with p := (testZ a m s).p } := by
  apply State.ext <;> simp [testZ]

theorem topBits_frame {n : Nat} (m : BitVec n) (s : State) :
    topBits m s = { s with p := (topBits m s).p } := by
  apply State.ext <;> simp [topBits]

theorem bitMemory_frame (op : Byte) (m : Mode) (s : State) :
    bitMemory op m s = { s with p := (bitMemory op m s).p } := by
  apply State.ext <;> simp [bitMemory, topBits, testZ]

theorem bitImmediate_frame (op : Byte) (v : Imm) (s : State) :
    bitImmediate op v s = { s with p := (bitImmediate op v s).p } := by
  cases h : s.cfg.flagProfile <;> (apply State.ext <;> simp [bitImmediate, topBits, testZ, h])

theorem testedFlags_frame (s : State) :
    testedFlags s = { s with p := (testedFlags s).p, draws := (testedFlags s).draws } := by
  cases h : s.cfg.flagProfile <;> (apply State.ext <;> simp [testedFlags, h])

theorem testAndModify_frame (f : (n : Nat) → BitVec n → BitVec n → BitVec n) (op : Byte) (m : Mode) (s : State) :
    testAndModify f op m s = { s with mem := (testAndModify f op m s).mem, p := (testAndModify f op m s).p, draws := (testAndModify f op m s).draws } := by
  cases h : s.cfg.flagProfile <;> (apply State.ext <;> simp [testAndModify, testedFlags, testZ, h])

theorem modifyMemory_frame (f : Modify) (op : Byte) (m : Mode) (s : State) :
    modifyMemory f op m s = { s with mem := (modifyMemory f op m s).mem, p := (modifyMemory f op m s).p } := by
  apply State.ext <;> simp [modifyMemory]

theorem modifyAcc_frame (f : Modify) (s : State) :
    modifyAcc f s = { s with a := (modifyAcc f s).a, p := (modifyAcc f s).p } := by
  apply State.ext <;> simp [modifyAcc]

theorem stepX_frame (f : Modify) (s : State) :
    stepX f s = { s with x := (stepX f s).x, p := (stepX f s).p } := by
  apply State.ext <;> simp [stepX]

theorem stepY_frame (f : Modify) (s : State) :
    stepY f s = { s with y := (stepY f s).y, p := (stepY f s).p } := by
  apply State.ext <;> simp [stepY]

theorem branchIf_frame (b : Bool) (rel : Byte) (s : State) :
    branchIf b rel s = { s with pc := (branchIf b rel s).pc } := by
  apply State.ext <;> simp [branchIf]

theorem pushReturn_frame (s : State) :
    pushReturn s = { s with mem := (pushReturn s).mem, sp := (pushReturn s).sp } := by
  apply State.ext <;> simp [pushReturn]

theorem callAbs_frame (w : Word) (s : State) :
    callAbs w s = { s with mem := (callAbs w s).mem, sp := (callAbs w s).sp, pc := (callAbs w s).pc } := by
  apply State.ext <;> simp [callAbs, jump, pushReturn]

theorem callTable_frame (w : Word) (s : State) :
    callTable w s = { s with mem := (callTable w s).mem, sp := (callTable w s).sp, pc := (callTable w s).pc } := by
  apply State.ext <;> simp [callTable, jump, pushReturn]

theorem callLong_frame (a : Addr) (s : State) :
    callLong a s = { s with mem := (callLong a s).mem, sp := (callLong a s).sp, pc := (callLong a s).pc, pbr := (callLong a s).pbr } := by
  apply State.ext <;> simp [callLong, jumpLong]

theorem returnNear_frame (s : State) :
    returnNear s = { s with sp := (returnNear s).sp, pc := (returnNear s).pc } := by
  apply State.ext <;> simp [returnNear, jump]

theorem returnLong_frame (s : State) :
    returnLong s = { s with sp := (returnLong s).sp, pc := (returnLong s).pc, pbr := (returnLong s).pbr } := by
  apply State.ext <;> simp [returnLong]

theorem profileNZ_frame {n : Nat} (v : BitVec n) (s : State) :
    profileNZ v s = { s with p := (profileNZ v s).p } := by
  cases h : s.cfg.flagProfile <;> (apply State.ext <;> simp [profileNZ, h])

theorem pushIndirect_frame (op zp : Byte) (s : State) :
    pushIndirect op zp s = { s with mem := (pushIndirect op zp s).mem, sp := (pushIndirect op zp s).sp } := by
  apply State.ext <;> simp [pushIndirect]

theorem pushRelative_frame (r : Word) (s : State) :
    pushRelative r s = { s with mem := (pushRelative r s).mem, sp := (pushRelative r s).sp } := by
  apply State.ext <;> simp [pushRelative]

theorem pullA_frame (s : State) :
    pullA s = { s with a := (pullA s).a, p := (pullA s).p, sp := (pullA s).sp } := by
  apply State.ext <;> simp [pullA]

theorem pullX_frame (s : State) :
    pullX s = { s with x := (pullX s).x, p := (pullX s).p, sp := (pullX s).sp } := by
  apply State.ext <;> simp [pullX]

theorem pullY_frame (s : State) :
    pullY s = { s with y := (pullY s).y, p := (pullY s).p, sp := (pullY s).sp } := by
  apply State.ext <;> simp [pullY]

theorem pullDbr_frame (s : State) :
    pullDbr s = { s with dbr := (pullDbr s).dbr, p := (pullDbr s).p, sp := (pullDbr s).sp } := by
  cases h : s.cfg.flagProfile <;> (apply State.ext <;> simp [pullDbr, profileNZ, h])

theorem pullD_frame (s : State) :
    pullD s = { s with d := (pullD s).d, p := (pullD s).p, sp := (pullD s).sp } := by
  cases h : s.cfg.flagProfile <;> (apply State.ext <;> simp [pullD, profileNZ, h])

theorem transferToX_frame (v : Word) (s : State) :
    transferToX v s = { s with x := (transferToX v s).x, p := (transferToX v s).p } := by
  apply State.ext <;> simp [transferToX]

theorem transferToY_frame (v : Word) (s : State) :
    transferToY v s = { s with y := (transferToY v s).y, p := (transferToY v s).p } := by
  apply State.ext <;> simp [transferToY]

theorem transferToA_frame (v : Word) (s : State) :
    transferToA v s = { s with a := (transferToA v s).a, p := (transferToA v s).p } := by
  apply State.ext <;> simp [transferToA]

theorem transferToC_frame (v : Word) (s : State) :
    transferToC v s = { s with a := (transferToC v s).a, p := (transferToC v s).p } := by
  apply State.ext <;> simp [transferToC]

theorem transferXY_frame (s : State) :
    transferXY s = { s with y := (transferXY s).y, p := (transferXY s).p } := by
  apply State.ext <;> simp [transferXY]

theorem transferYX_frame (s : State) :
    transferYX s = { s with x := (transferYX s).x, p := (transferYX s).p } := by
  apply State.ext <;> simp [transferYX]

theorem transferToS_frame (v : Word) (s : State) :
    transferToS v s = { s with sp := (transferToS v s).sp } := by
  apply State.ext <;> simp [transferToS]

theorem transferToD_frame (s : State) :
    transferToD s = { s with d := (transferToD s).d, p := (transferToD s).p } := by
  cases h : s.cfg.flagProfile <;> (apply State.ext <;> simp [transferToD, profileNZ, h])

theorem exchangeHalves_frame (s : State) :
    exchangeHalves s = { s with a := (exchangeHalves s).a, p := (exchangeHalves s).p } := by
  cases h : s.cfg.flagProfile <;> (apply State.ext <;> simp [exchangeHalves, profileNZ, h])

theorem exchangeCE_frame (s : State) :
    exchangeCE s = { s with p := (exchangeCE s).p, e := (exchangeCE s).e, x := (exchangeCE s).x, y := (exchangeCE s).y, sp := (exchangeCE s).sp } := by
  unfold exchangeCE; dsimp only; split <;> (apply State.ext <;> simp)

theorem pushFrame_frame (k : Trap) (r : Word) (s : State) :
    s.pushFrame k r = { s with mem := (s.pushFrame k r).mem, sp := (s.pushFrame k r).sp } := by
  apply State.ext <;> simp

theorem trapEntry_frame (k : Trap) (r : Word) (s : State) :
    s.trapEntry k r = { s with mem := (s.trapEntry k r).mem, sp := (s.trapEntry k r).sp, p := (s.trapEntry k r).p, pbr := (s.trapEntry k r).pbr, pc := (s.trapEntry k r).pc } := by
  apply State.ext <;> simp [State.trapEntry]

theorem returnFromTrap_frame (s : State) :
    s.returnFromTrap = { s with sp := (s.returnFromTrap).sp, p := (s.returnFromTrap).p, x := (s.returnFromTrap).x, y := (s.returnFromTrap).y, pc := (s.returnFromTrap).pc, pbr := (s.returnFromTrap).pbr } := by
  unfold State.returnFromTrap; dsimp only; split <;> (apply State.ext <;> simp)

theorem takeInterrupt_frame (k : Trap) (s : State) :
    s.takeInterrupt k = { s with run := (s.takeInterrupt k).run, mem := (s.takeInterrupt k).mem, sp := (s.takeInterrupt k).sp, p := (s.takeInterrupt k).p, pbr := (s.takeInterrupt k).pbr, pc := (s.takeInterrupt k).pc } := by
  apply State.ext <;> simp [State.takeInterrupt, State.trapEntry]

end Sys2Proof.Machine
end

