-- ==== Sys2Proof/Laws/Memory.lean ====
section
/-! SUPPORT. Memory: what a read after a write gives, that every write keeps the canonical form, and that memories in
that form with the same bytes are equal. -/

namespace Sys2Proof.Machine

theorem Memory.readAt_consAt (k : Nat) (v : Byte) (r : Memory) (j : Nat) :
    Memory.readAt (Memory.consAt k v r) j =
      if j = k then (if v = Memory.unlisted then Memory.readAt r j else v) else Memory.readAt r j := by
  unfold Memory.consAt
  by_cases hv : v = Memory.unlisted <;> by_cases hj : j = k <;> simp [hv, hj, Memory.readAt]

/-- Addresses below the first listed one read as unlisted. -/
theorem Memory.readAt_below {m : Memory} {k j : Nat} (h : Memory.wfFrom k m = true) (hj : j < k) :
    Memory.readAt m j = Memory.unlisted := by
  induction m generalizing k with
  | nil => rfl
  | cons c r ih =>
    obtain ⟨i, v⟩ := c
    simp only [Memory.wfFrom, Bool.and_eq_true, decide_eq_true_eq] at h
    have hne : j ≠ i := by omega
    simp only [Memory.readAt, hne, if_false]
    exact ih h.2 (by omega)

theorem Memory.wfFrom_mono {m : Memory} {k k' : Nat} (h : Memory.wfFrom k m = true) (hk : k' ≤ k) :
    Memory.wfFrom k' m = true := by
  cases m with
  | nil => rfl
  | cons c r =>
    obtain ⟨i, v⟩ := c
    simp only [Memory.wfFrom, Bool.and_eq_true, decide_eq_true_eq] at h ⊢
    exact ⟨⟨⟨by omega, h.1.1.2⟩, h.1.2⟩, h.2⟩

theorem Memory.wfFrom_consAt {r : Memory} {k : Nat} {v : Byte} (j : Nat) (hj : j ≤ k) (hk : k < 2 ^ 24)
    (h : Memory.wfFrom (k + 1) r = true) : Memory.wfFrom j (Memory.consAt k v r) = true := by
  unfold Memory.consAt
  split
  · exact Memory.wfFrom_mono h (by omega)
  · rename_i hv
    simp only [Memory.wfFrom, Bool.and_eq_true, decide_eq_true_eq]
    exact ⟨⟨⟨hj, hk⟩, hv⟩, h⟩

theorem Memory.wfFrom_writeAt {m : Memory} {j : Nat} (k : Nat) (v : Byte) (hj : j ≤ k) (hk : k < 2 ^ 24)
    (h : Memory.wfFrom j m = true) : Memory.wfFrom j (Memory.writeAt m k v) = true := by
  induction m generalizing j with
  | nil => exact Memory.wfFrom_consAt j hj hk rfl
  | cons c r ih =>
    obtain ⟨i, w⟩ := c
    have h' := h
    simp only [Memory.wfFrom, Bool.and_eq_true, decide_eq_true_eq] at h
    obtain ⟨⟨⟨hji, hi⟩, hw⟩, hr⟩ := h
    unfold Memory.writeAt
    split
    · apply Memory.wfFrom_consAt j hj hk
      simp only [Memory.wfFrom, Bool.and_eq_true, decide_eq_true_eq]
      exact ⟨⟨⟨by omega, hi⟩, hw⟩, hr⟩
    · split
      · rename_i h1 h2
        subst h2
        exact Memory.wfFrom_consAt j hji hk hr
      · simp only [Memory.wfFrom, Bool.and_eq_true, decide_eq_true_eq]
        exact ⟨⟨⟨hji, hi⟩, hw⟩, ih (by omega) hr⟩

/-- A byte read after a byte written: the value written at that address, and what was there at every other. -/
theorem Memory.readAt_writeAt {m : Memory} {i : Nat} (h : Memory.wfFrom i m = true) (k : Nat) (v : Byte) (j : Nat) :
    Memory.readAt (Memory.writeAt m k v) j = if j = k then v else Memory.readAt m j := by
  induction m generalizing i with
  | nil =>
    simp only [Memory.writeAt, Memory.readAt_consAt, Memory.readAt]
    by_cases hv : v = Memory.unlisted <;> by_cases hj : j = k <;> simp [hv, hj]
  | cons c r ih =>
    obtain ⟨n, w⟩ := c
    have h' := h
    simp only [Memory.wfFrom, Bool.and_eq_true, decide_eq_true_eq] at h
    obtain ⟨⟨⟨hji, hi⟩, hw⟩, hr⟩ := h
    unfold Memory.writeAt
    split
    · rename_i hlt
      rw [Memory.readAt_consAt]
      by_cases hj : j = k
      · subst hj
        have hb : Memory.readAt ((n, w) :: r) j = Memory.unlisted := by
          have hne : j ≠ n := by omega
          simp only [Memory.readAt, hne, if_false]
          exact Memory.readAt_below hr (by omega)
        by_cases hv : v = Memory.unlisted <;> simp [hv, hb]
      · simp [hj]
    · split
      · rename_i h2
        subst h2
        rw [Memory.readAt_consAt]
        by_cases hj : j = k
        · subst hj
          have hb := Memory.readAt_below hr (Nat.lt_succ_self j)
          by_cases hv : v = Memory.unlisted <;> simp [hv, hb]
        · simp [hj, Memory.readAt]
      · rename_i h1 h2
        simp only [Memory.readAt, ih hr]
        by_cases hj : j = n
        · have : j ≠ k := by omega
          simp [hj, show n ≠ k by omega]
        · simp [hj]

theorem Memory.ext_wfFrom {m m' : Memory} {i : Nat} (h : Memory.wfFrom i m = true) (h' : Memory.wfFrom i m' = true)
    (he : ∀ k, k < 2 ^ 24 → Memory.readAt m k = Memory.readAt m' k) : m = m' := by
  induction m generalizing i m' with
  | nil =>
    cases m' with
    | nil => rfl
    | cons c r =>
      obtain ⟨j, v⟩ := c
      simp only [Memory.wfFrom, Bool.and_eq_true, decide_eq_true_eq] at h'
      have := he j h'.1.1.2
      simp only [Memory.readAt, if_true] at this
      exact absurd this.symm h'.1.2
  | cons c r ih =>
    obtain ⟨j, v⟩ := c
    have hc := h
    simp only [Memory.wfFrom, Bool.and_eq_true, decide_eq_true_eq] at h
    cases m' with
    | nil =>
      have := he j h.1.1.2
      simp only [Memory.readAt, if_true] at this
      exact absurd this h.1.2
    | cons c' r' =>
      obtain ⟨j', v'⟩ := c'
      have hc' := h'
      simp only [Memory.wfFrom, Bool.and_eq_true, decide_eq_true_eq] at h'
      have hjj : j = j' := by
        rcases Nat.lt_trichotomy j j' with hlt | heq | hgt
        · have e := he j h.1.1.2
          simp only [Memory.readAt, if_true, show j ≠ j' by omega, if_false] at e
          rw [Memory.readAt_below h'.2 (by omega)] at e
          exact absurd e h.1.2
        · exact heq
        · have e := he j' h'.1.1.2
          simp only [Memory.readAt, if_true, show j' ≠ j by omega, if_false] at e
          rw [Memory.readAt_below h.2 (by omega)] at e
          exact absurd e.symm h'.1.2
      subst hjj
      have hv : v = v' := by simpa [Memory.readAt] using he j h.1.1.2
      subst hv
      congr 1
      apply ih h.2 h'.2
      intro k hk
      by_cases hkj : k = j
      · subst hkj
        rw [Memory.readAt_below h.2 (by omega), Memory.readAt_below h'.2 (by omega)]
      · simpa [Memory.readAt, hkj] using he k hk

/-- A read after a write (20_memory.md R71). -/
theorem Memory.read_write {m : Memory} (h : Memory.wf m = true) (a b : Addr) (v : Byte) :
    (m.write a v).read b = if b = a then v else m.read b := by
  simp only [Memory.read, Memory.write, Memory.readAt_writeAt h, BitVec.toNat_inj]

theorem Memory.read_write_same {m : Memory} (h : Memory.wf m = true) (a : Addr) (v : Byte) :
    (m.write a v).read a = v := by simp [Memory.read_write h]

theorem Memory.read_write_ne {m : Memory} (h : Memory.wf m = true) {a b : Addr} (v : Byte) (hn : b ≠ a) :
    (m.write a v).read b = m.read b := by simp [Memory.read_write h, hn]

/-- A write keeps the canonical form. -/
theorem Memory.wf_write {m : Memory} (h : Memory.wf m = true) (a : Addr) (v : Byte) :
    Memory.wf (m.write a v) = true :=
  Memory.wfFrom_writeAt _ _ (Nat.zero_le _) a.isLt h

/-- A write of an operand keeps the canonical form. -/
theorem Memory.wf_writeW {m : Memory} (h : Memory.wf m = true) (b : ByteOrder) (w : Width) (ea : EA)
    (v : BitVec w.bits) : Memory.wf (m.writeW b w ea v) = true := by
  cases w
  · exact Memory.wf_write h _ _
  · cases b <;> exact Memory.wf_write (Memory.wf_write h _ _) _ _

/-- Two memories in canonical form that read alike everywhere are the same memory. -/
theorem Memory.ext_of_wf {m m' : Memory} (h : Memory.wf m = true) (h' : Memory.wf m' = true)
    (he : ∀ a : Addr, m.read a = m'.read a) : m = m' := by
  refine Memory.ext_wfFrom h h' fun k hk => ?_
  have := he (BitVec.ofNat 24 k)
  simp only [Memory.read, BitVec.toNat_ofNat, Nat.mod_eq_of_lt hk] at this
  exact this

/-- The empty list is in canonical form. -/
@[simp] theorem Memory.wf_nil : Memory.wf [] = true := rfl

/-- The two bytes of a 16-bit access are different bytes. -/
theorem EA.byte_ne (ea : EA) : ea.byte 0 ≠ ea.byte 1 := by
  intro h
  cases hc : ea.cls
  · simp only [EA.byte, nextAddr, hc] at h
    have := congrArg BitVec.toNat h
    simp only [BitVec.toNat_add, BitVec.toNat_ofNat] at this
    have := ea.addr.isLt
    omega
  all_goals
    simp only [EA.byte, nextAddr, hc, addr_inj] at h
    have := congrArg BitVec.toNat h.2
    simp only [BitVec.toNat_add, BitVec.toNat_ofNat] at this
    have := (offset ea.addr).isLt
    omega

/-- In memory the order in which the two bytes of a word are written is not observable (20_memory.md R65). -/
theorem Memory.writeW_order {m : Memory} (h : Memory.wf m = true) (b : ByteOrder) (w : Width) (ea : EA)
    (v : BitVec w.bits) : m.writeW b w ea v = m.writeW .lowFirst w ea v := by
  cases w
  · rfl
  · cases b
    · rfl
    · refine Memory.ext_of_wf (Memory.wf_writeW h _ _ _ _) (Memory.wf_writeW h _ _ _ _) fun a => ?_
      have hne := ea.byte_ne
      simp only [Memory.writeW, Memory.read_write (Memory.wf_write h _ _), Memory.read_write h]
      by_cases h0 : a = ea.byte 0
      · simp [h0, hne]
      · simp [h0]

/-- The bytes an operand access of a width has. -/
theorem Memory.read_writeW_outside {m : Memory} (h : Memory.wf m = true) (o : ByteOrder) (w : Width) (ea : EA)
    (v : BitVec w.bits) (b : Addr) (hb : ∀ k, k < w.bits / 8 → b ≠ ea.byte k) :
    (m.writeW o w ea v).read b = m.read b := by
  rw [Memory.writeW_order h]
  cases w
  · exact Memory.read_write_ne h _ (hb 0 (by decide))
  · simp only [Memory.writeW]
    rw [Memory.read_write_ne (Memory.wf_write h _ _) _ (hb 1 (by decide)),
      Memory.read_write_ne h _ (hb 0 (by decide))]

/-- An 8-bit read is the byte at byte 0 of the access (20_memory.md R68). -/
theorem Memory.readW_w8 (m : Memory) (ea : EA) : m.readW .w8 ea = m.read (ea.byte 0) := rfl

/-- A 16-bit read is little-endian: its low byte at byte 0, its high byte at byte 1 (20_memory.md R63, R68). -/
theorem Memory.readW_w16 (m : Memory) (ea : EA) :
    m.readW .w16 ea = word (m.read (ea.byte 1)) (m.read (ea.byte 0)) := rfl

/-- An operand read back where it was written is the operand. -/
theorem Memory.readW_writeW {m : Memory} (h : Memory.wf m = true) (b : ByteOrder) (w : Width) (ea : EA)
    (v : BitVec w.bits) : (m.writeW b w ea v).readW w ea = v := by
  rw [Memory.writeW_order h]
  cases w
  · exact Memory.read_write_same h _ _
  · simp only [Memory.writeW, Memory.readW, Memory.read16]
    rw [Memory.read_write_same (Memory.wf_write h _ _), Memory.read_write_ne (Memory.wf_write h _ _) _ ea.byte_ne,
      Memory.read_write_same h]
    exact word_hi_lo v

end Sys2Proof.Machine
end

