-- ==== Sys2Proof/Laws/Ops.lean ====
section
/-! SUPPORT. What the shared operations give: the stack, direct-page addresses, the accumulator at its width, binary and
decimal arithmetic, and what a boundary of the step can decide. -/

namespace Sys2Proof.Machine

/-- A pull undoes the pointer of a push (20_memory.md R75, R77, R80). -/
@[simp] theorem pulledSp_pushedSp (e : Bool) (w : Word) : pulledSp e (pushedSp e w) = w := by
  cases e
  · simp [pulledSp, pushedSp]
  · simp [pulledSp, pushedSp]

/-- In emulation mode a push and a pull keep `SH` (20_memory.md R80). -/
@[simp] theorem hi_pushedSp_emulation (w : Word) : hi (pushedSp true w) = hi w := by simp [pushedSp]

@[simp] theorem hi_pulledSp_emulation (w : Word) : hi (pulledSp true w) = hi w := by simp [pulledSp]

/-- The slot of a push and the slot of the next push differ. -/
theorem pushedSp_ne (e : Bool) (w : Word) : pushedSp e w ≠ w := by
  intro h
  cases e
  · simp only [pushedSp, Bool.false_eq_true, if_false] at h
    have e1 := congrArg BitVec.toNat h
    rw [BitVec.toNat_sub, show (1 : Word).toNat = 1 from rfl] at e1
    have := w.isLt
    omega
  · have h' := congrArg lo h
    simp only [pushedSp, if_true, lo_word] at h'
    have e1 := congrArg BitVec.toNat h'
    rw [BitVec.toNat_sub, show (1 : Byte).toNat = 1 from rfl] at e1
    have := (lo w).isLt
    omega

/-- A byte pulled after a push is the byte pushed. -/
theorem pull8_push8 {s : State} (h : Memory.wf s.mem = true) (v : Byte) : (s.push8 v).pull8.1 = v := by
  simp [Memory.read_write_same h]

/-- A word pulled after a push is the word pushed (20_memory.md R76, R78). -/
theorem pull16_push16 {s : State} (h : Memory.wf s.mem = true) (v : Word) : (s.push16 v).pull16.1 = v := by
  have hne := (pushedSp_ne s.e s.sp).symm
  simp [Memory.read_write (Memory.wf_write h _ _), Memory.read_write h, hne]

/-- A push writes one byte, at `$00:S`. -/
theorem push8_read_other {s : State} (h : Memory.wf s.mem = true) (v : Byte) {b : Addr} (hb : b ≠ addr 0 s.sp) :
    (s.push8 v).mem.read b = s.mem.read b := Memory.read_write_ne h v hb

/-- The pushes keep memory's canonical form. -/
theorem wf_push8 {s : State} (h : Memory.wf s.mem = true) (v : Byte) : Memory.wf (s.push8 v).mem = true :=
  Memory.wf_write h _ _

theorem wf_push16 {s : State} (h : Memory.wf s.mem = true) (v : Word) : Memory.wf (s.push16 v).mem = true :=
  wf_push8 (wf_push8 h _) _

theorem wf_pushW {s : State} (h : Memory.wf s.mem = true) (w : Width) (v : BitVec w.bits) :
    Memory.wf (s.pushW w v).mem = true := by
  cases w
  · exact wf_push8 h v
  · exact wf_push16 h v

theorem wf_pushFrame {s : State} (h : Memory.wf s.mem = true) (k : Trap) (r : Word) :
    Memory.wf (s.pushFrame k r).mem = true := by
  unfold State.pushFrame
  split
  · exact wf_push8 (wf_push16 h _) _
  · exact wf_push8 (wf_push16 (wf_push8 h _) _) _

/-- The accumulator read back at the width it was written at, and `AH` kept at 8 bits (10_state.md R21). -/
@[simp] theorem acc_setAcc (w : Width) (v : BitVec w.bits) (s : State) : (s.setAcc w v).acc w = v := by
  cases w
  · simp [State.acc]
  · simp [State.acc]

theorem hi_setAcc_w8 (v : Byte) (s : State) : hi (s.setAcc .w8 v).a = hi s.a := by simp

/-- The exact value of a 24-bit indexed address (40_addressing_modes.md R139). -/
theorem indexed_toNat (a : Addr) (idx : Word) : (indexed a idx).toNat = (a.toNat + idx.toNat) % 2 ^ 24 := by
  have := idx.isLt
  simp only [indexed, BitVec.toNat_add, BitVec.toNat_setWidth]
  omega

/-- A direct-page address with `DP_CARRY` that does not wrap is the exact sum (40_addressing_modes.md R124). -/
theorem directEA_sum {op zp : Byte} {idx : Word} {s : State} (hc : s.cfg.dpCarry = true)
    (hw : (s.e && wrapCond s.cfg op s.d) = false) :
    (directEA op zp idx s).addr.toNat = s.d.toNat + zp.toNat + idx.toNat := by
  have := s.d.isLt
  have := zp.isLt
  have := idx.isLt
  simp only [directEA, hw, hc, Bool.false_eq_true, if_false, if_true, BitVec.toNat_ofNat]
  omega

/-- A direct-page address that wraps stays in its page (40_addressing_modes.md R124, R126). -/
theorem directEA_wrap {op zp : Byte} {idx : Word} {s : State} (hw : (s.e && wrapCond s.cfg op s.d) = true) :
    (directEA op zp idx s).addr = addr 0 (word (hi s.d) (zp + lo idx)) := by
  simp [directEA, hw]

/-- Without `DP_CARRY` a direct-page address that does not wrap in its page wraps in bank 0 (40_addressing_modes.md
R124). -/
theorem directEA_bank0 {op zp : Byte} {idx : Word} {s : State} (hc : s.cfg.dpCarry = false)
    (hw : (s.e && wrapCond s.cfg op s.d) = false) :
    (directEA op zp idx s).addr.toNat = (s.d.toNat + zp.toNat + idx.toNat) % 2 ^ 16 := by
  simp only [directEA, hw, hc, Bool.false_eq_true, if_false, addr, BitVec.toNat_append, BitVec.toNat_ofNat]
  simp

/-- The wrap class of a direct-page address (40_addressing_modes.md R124). -/
theorem directEA_cls (op zp : Byte) (idx : Word) (s : State) :
    (directEA op zp idx s).cls = if s.cfg.dpCarry then .linear else .bank0 := rfl

/-- The result and carry of a binary addition are the exact sum (42_alu.md R181). -/
theorem binaryAdd_exact {n : Nat} (a m : BitVec n) (c : Bool) :
    (binaryAdd a m c).value.toNat + 2 ^ n * (binaryAdd a m c).carry.toNat = a.toNat + m.toNat + c.toNat := by
  have ha := a.isLt
  have hm := m.isLt
  have hc : c.toNat ≤ 1 := Bool.toNat_le c
  simp only [binaryAdd, BitVec.toNat_ofNat, addSum]
  by_cases h : 2 ^ n ≤ a.toNat + m.toNat + c.toNat
  · rw [Nat.mod_eq_sub_mod h, Nat.mod_eq_of_lt (by omega)]
    simp only [h, decide_true, Bool.toNat_true]
    omega
  · rw [Nat.mod_eq_of_lt (by omega)]
    simp [h]

/-- The result and carry of a binary subtraction (42_alu.md R189): C = 1 means no borrow. -/
theorem binarySub_exact {n : Nat} (a m : BitVec n) (c : Bool) :
    (binarySub a m c).value.toNat + 2 ^ n * (binarySub a m c).carry.toNat + m.toNat + 1 =
      a.toNat + 2 ^ n + c.toNat := by
  have ha := a.isLt
  have hm := m.isLt
  have hc : c.toNat ≤ 1 := Bool.toNat_le c
  simp only [binarySub, BitVec.toNat_ofNat, subSum]
  by_cases h : 2 ^ n ≤ a.toNat + (2 ^ n - 1 - m.toNat) + c.toNat
  · rw [Nat.mod_eq_sub_mod h, Nat.mod_eq_of_lt (by omega)]
    simp only [h, decide_true, Bool.toNat_true]
    omega
  · rw [Nat.mod_eq_of_lt (by omega)]
    simp only [h, decide_false, Bool.toNat_false]
    omega

/-- `bcd(t)` is below `16^k`, is valid BCD, and spells `t` (42_alu.md R192). -/
theorem bcdOf_lt (k t : Nat) : bcdOf k t < 16 ^ k := by
  induction k generalizing t with
  | zero => simp [bcdOf]
  | succ j ih =>
    have := ih (t / 10)
    simp only [bcdOf, pow_succ]
    omega

theorem bcdVal_bcdOf (k t : Nat) (h : t < 10 ^ k) : bcdVal k (bcdOf k t) = t := by
  induction k generalizing t with
  | zero => simp_all [bcdVal]
  | succ j ih =>
    have hj : t / 10 < 10 ^ j := by rw [pow_succ] at h; omega
    have e1 : (t % 10 + 16 * bcdOf j (t / 10)) % 16 = t % 10 := by omega
    have e2 : (t % 10 + 16 * bcdOf j (t / 10)) / 16 = bcdOf j (t / 10) := by omega
    simp only [bcdVal, bcdOf, e1, e2, ih _ hj]
    omega

theorem bcdValid_bcdOf (k t : Nat) : bcdValid k (bcdOf k t) = true := by
  induction k generalizing t with
  | zero => rfl
  | succ j ih =>
    have e1 : (t % 10 + 16 * bcdOf j (t / 10)) % 16 = t % 10 := by omega
    have e2 : (t % 10 + 16 * bcdOf j (t / 10)) / 16 = bcdOf j (t / 10) := by omega
    simp only [bcdValid, bcdOf, e1, e2, ih, Bool.and_true, decide_eq_true_eq]
    omega

/-- A platform's decimal function gives the definition's result and C on valid BCD (42_alu.md R192). -/
theorem refineDecimal_valid (g : DecimalDef) (f : DecimalFn) {w : Width} {a m : BitVec w.bits} (c : Bool)
    (h : decimalValid w a m = true) :
    refineDecimal g f w a m c = ⟨(g w a m c).1, (g w a m c).2, (f w a m c).2.2⟩ := by simp [refineDecimal, h]

/-- On any other operands it gives everything (42_alu.md R192). -/
theorem refineDecimal_invalid (g : DecimalDef) (f : DecimalFn) {w : Width} {a m : BitVec w.bits} (c : Bool)
    (h : decimalValid w a m = false) :
    refineDecimal g f w a m c = ⟨(f w a m c).1, (f w a m c).2.1, (f w a m c).2.2⟩ := by simp [refineDecimal, h]

/-- Everything a decimal operation can do (42_alu.md R192). -/
theorem decimalOp_cases (g : DecimalDef) (f : DecimalFn) (w : Width) (a m : BitVec w.bits) (s : State) :
    (s.cfg.decimal = .definition ∧ decimalValid w a m = true ∧
      decimalOp g f w a m s = setDecimal w (g w a m (s.flag .c)) s) ∨
    (s.cfg.decimal = .definition ∧ decimalValid w a m = false ∧ decimalOp g f w a m s = setUnspecified w s) ∨
    (s.cfg.decimal = .platform ∧ decimalOp g f w a m s = setArith w (refineDecimal g f w a m (s.flag .c)) s) := by
  cases hd : s.cfg.decimal <;> cases hv : decimalValid w a m <;> simp [decimalOp, hd, hv]

/-- A reset takes the values the platform gives for what it does not fix (10_state.md R45). -/
theorem resetDraw_given {s : State} {r : ResetDraw} (h : s.cfg.resetDraw = some r) : s.resetDraw = r := by
  simp [State.resetDraw, h]

/-- Everything a boundary can decide (60_exceptions.md R358). -/
theorem boundary_cases (s : State) :
    (s.resetLine = true ∧ s.boundary = some s.resetSequence) ∨
    (s.resetLine = false ∧ s.run = .stopped ∧ s.boundary = some s) ∨
    (s.resetLine = false ∧ s.run ≠ .stopped ∧
      ((s.cfg.abortAsserted = true ∧ s.abortLine = true ∧ s.boundary = some (s.takeInterrupt .abort)) ∨
       ((s.cfg.abortAsserted && s.abortLine) = false ∧
         ((s.nmiPending = true ∧ s.boundary = some ({ s with nmiPending := false }.takeInterrupt .nmi)) ∨
          (s.nmiPending = false ∧
            ((s.irqLine = true ∧ s.flag .i = false ∧ s.boundary = some (s.takeInterrupt .irq)) ∨
             (s.irqLine = true ∧ s.flag .i = true ∧ s.run = .waiting ∧
               s.boundary = some { s with run := .running }) ∨
             ((s.irqLine && !s.flag .i) = false ∧ s.run = .running ∧ s.boundary = none) ∨
             (s.irqLine = false ∧ s.run = .waiting ∧ s.boundary = some s))))))) := by
  cases h1 : s.resetLine <;> cases h2 : s.run <;> cases h3 : s.cfg.abortAsserted <;> cases h4 : s.abortLine <;>
    cases h5 : s.nmiPending <;> cases h6 : s.irqLine <;> cases h7 : s.flag .i <;>
    simp [State.boundary, h1, h2, h3, h4, h5, h6, h7]

/-- The next step from a quiet machine executes the instruction at `PBR:PC`. -/
theorem boundary_quiet (s : State) : s.quiet.boundary = none := by simp [State.boundary]

end Sys2Proof.Machine
end

