-- ==== Sys2Proof/Laws/Inv.lean ====
section
/-! SUPPORT. Every shared operation keeps the machine's invariant. -/

namespace Sys2Proof.Machine

/-- What a change must respect to keep the invariant while the mode and widths stay. -/
theorem inv_of_same_widths {s t : State} (h : s.Inv) (hmem : Memory.wf t.mem = true) (he : t.e = s.e)
    (hm : t.flag .m = s.flag .m) (hx : t.flag .x = s.flag .x)
    (hxy : s.x8 = true → hi t.x = 0 ∧ hi t.y = 0) (hs : s.e = true → hi t.sp = 1) : t.Inv := by
  refine ⟨hmem, fun e => ?_, fun e => hxy ?_, fun e => hs (he ▸ e)⟩
  · rw [hm, hx]; exact h.2.1 (he ▸ e)
  · rw [x8_congr he hx] at e; exact e

/-- A change of P's other flags, of `A`, `D`, `PC`, the bank registers, `run`, the signals or the draws keeps it. -/
theorem inv_of_unrelated {s t : State} (h : s.Inv) (hmem : t.mem = s.mem) (he : t.e = s.e)
    (hm : t.flag .m = s.flag .m) (hx : t.flag .x = s.flag .x) (hX : t.x = s.x) (hY : t.y = s.y)
    (hs : t.sp = s.sp) : t.Inv :=
  inv_of_same_widths h (hmem ▸ h.1) he hm hx (fun e => by rw [hX, hY]; exact h.2.2.1 e)
    (fun e => by rw [hs]; exact h.2.2.2 e)

theorem inv_setFlag {s : State} (h : s.Inv) {f : Flag} (b : Bool) (hm : f ≠ .m) (hx : f ≠ .x) :
    (s.setFlag f b).Inv :=
  inv_of_unrelated h rfl rfl (by simp [hm.symm]) (by simp [hx.symm]) rfl rfl rfl

theorem inv_setNZ {s : State} (h : s.Inv) {n : Nat} (v : BitVec n) : (s.setNZ v).Inv :=
  inv_of_unrelated h rfl rfl (by simp) (by simp) rfl rfl rfl

theorem inv_setFlagFree {s : State} (h : s.Inv) {f : Flag} (hm : f ≠ .m) (hx : f ≠ .x) : (s.setFlagFree f).Inv :=
  inv_of_unrelated h rfl rfl (by simp [hm.symm]) (by simp [hx.symm]) rfl rfl rfl

theorem inv_setCarry {s : State} (h : s.Inv) (c : Option Bool) : (s.setCarry c).Inv := by
  cases c
  · exact h
  · exact inv_setFlag h _ (by decide) (by decide)

theorem inv_setAcc {s : State} (h : s.Inv) (w : Width) (v : BitVec w.bits) : (s.setAcc w v).Inv :=
  inv_of_unrelated h (by simp) (by simp) (by simp [flag_def]) (by simp [flag_def]) (by simp) (by simp) (by simp)

theorem inv_advance {s : State} (h : s.Inv) (k : Nat) : (s.advance k).Inv :=
  inv_of_unrelated h rfl rfl rfl rfl rfl rfl rfl

/-- A value of width `wx` zero-extended has a zero high byte while `x8` holds (10_state.md R22). -/
theorem hi_setWidth_wx (s : State) (v : BitVec s.wx.bits) (e : s.x8 = true) : hi (v.setWidth 16) = 0 := by
  have hw : s.wx = .w8 := by simp [State.wx, e]
  revert v
  rw [hw]
  exact fun v => hi_setWidth v

theorem inv_setX {s : State} (h : s.Inv) (v : BitVec s.wx.bits) : (s.setX v).Inv :=
  inv_of_same_widths h h.1 rfl rfl rfl (fun e => ⟨hi_setWidth_wx s v e, (h.2.2.1 e).2⟩) h.2.2.2

theorem inv_setY {s : State} (h : s.Inv) (v : BitVec s.wx.bits) : (s.setY v).Inv :=
  inv_of_same_widths h h.1 rfl rfl rfl (fun e => ⟨(h.2.2.1 e).1, hi_setWidth_wx s v e⟩) h.2.2.2

theorem inv_mem {s : State} (h : s.Inv) {m : Memory} (hm : Memory.wf m = true) : { s with mem := m }.Inv :=
  inv_of_same_widths h hm rfl rfl rfl h.2.2.1 h.2.2.2

theorem inv_storeOperand {s : State} (h : s.Inv) (w : Width) (op : Byte) (m : Mode) (v : BitVec w.bits) :
    (storeOperand w op m v s).Inv := inv_mem h (Memory.wf_writeW h.1 _ _ _ _)

theorem inv_push8 {s : State} (h : s.Inv) (v : Byte) : (s.push8 v).Inv :=
  inv_of_same_widths h (wf_push8 h.1 v) rfl rfl rfl h.2.2.1 (fun e => by
    rw [push8_sp, e, hi_pushedSp_emulation]; exact h.2.2.2 e)

theorem inv_push16 {s : State} (h : s.Inv) (v : Word) : (s.push16 v).Inv := inv_push8 (inv_push8 h _) _

theorem inv_pushW {s : State} (h : s.Inv) (w : Width) (v : BitVec w.bits) : (s.pushW w v).Inv := by
  cases w
  · exact inv_push8 h v
  · exact inv_push16 h v

theorem inv_pull8 {s : State} (h : s.Inv) : s.pull8.2.Inv :=
  inv_of_same_widths h h.1 rfl rfl rfl h.2.2.1 (fun e => by
    rw [pull8_sp, e, hi_pulledSp_emulation]; exact h.2.2.2 e)

theorem inv_pull16 {s : State} (h : s.Inv) : s.pull16.2.Inv := inv_pull8 (inv_pull8 h)

theorem inv_pullW {s : State} (h : s.Inv) (w : Width) : (s.pullW w).2.Inv := by
  cases w
  · exact inv_pull8 h
  · exact inv_pull16 h

/-- `WriteP` keeps it: M and X stay 1 in emulation mode, and a P with X = 1 zeroes the index high bytes
(10_state.md R33, R35). -/
theorem inv_writeP {s : State} (h : s.Inv) (v : Byte) : (s.writeP v).Inv := by
  have hp : (s.writeP v).p = writtenP s.e v := writeP_p v s
  refine ⟨by simpa using h.1, fun e => ?_, fun e => ?_, fun e => ?_⟩
  · rw [writeP_e_same] at e
    simp [flag_def, flagOf_writtenP, e]
  · have hx : flagOf (writtenP s.e v) .x = true := by
      rw [State.x8, writeP_e_same, flag_def, hp, Bool.or_eq_true] at e
      rcases e with e | e
      · simp [flagOf_writtenP, e]
      · exact e
    simp [hx]
  · rw [writeP_e_same] at e
    rw [writeP_sp_same]; exact h.2.2.2 e

/-- XCE keeps it (47_flags_status.md R309). -/
theorem inv_exchangeCE {s : State} (h : s.Inv) : (exchangeCE s).Inv := by
  unfold exchangeCE
  cases hc : s.flag .c
  · simp only [Bool.false_eq_true, if_false]
    refine ⟨h.1, fun e => absurd e (by simp), fun e => ?_, fun e => absurd e (by simp)⟩
    have hx : s.flag .x = true := by simpa [State.x8, flag_def, flagOf_withFlag] using e
    exact h.2.2.1 (by simp [State.x8, hx])
  · simp only [if_true]
    refine ⟨h.1, fun _ => ?_, fun _ => ?_, fun _ => ?_⟩
    · simp [flag_def, flagOf_withFlag]
    · simp
    · simp

theorem inv_pushFrame {s : State} (h : s.Inv) (k : Trap) (r : Word) : (s.pushFrame k r).Inv := by
  unfold State.pushFrame
  split
  · exact inv_push8 (inv_push16 h _) _
  · exact inv_push8 (inv_push16 (inv_push8 h _) _) _

/-- A trap entry keeps it (60_exceptions.md R352, R353). -/
theorem inv_trapEntry {s : State} (h : s.Inv) (k : Trap) (r : Word) : (s.trapEntry k r).Inv :=
  inv_of_unrelated (inv_pushFrame h k r) rfl rfl (by simp [State.trapEntry, flag_def, flagOf_withFlag])
    (by simp [State.trapEntry, flag_def, flagOf_withFlag]) rfl rfl rfl

theorem inv_returnFromTrap {s : State} (h : s.Inv) : s.returnFromTrap.Inv := by
  have h1 : (s.pull8.2.writeP s.pull8.1).Inv := inv_writeP (inv_pull8 h) _
  have h2 := inv_pull16 h1
  have h3 : ({ (s.pull8.2.writeP s.pull8.1).pull16.2 with
      pc := (s.pull8.2.writeP s.pull8.1).pull16.1 } : State).Inv :=
    inv_of_unrelated h2 rfl rfl rfl rfl rfl rfl rfl
  unfold State.returnFromTrap
  dsimp only
  split
  · exact h3
  · exact inv_of_unrelated (inv_pull8 h3) rfl rfl rfl rfl rfl rfl rfl

theorem inv_takeInterrupt {s : State} (h : s.Inv) (k : Trap) : (s.takeInterrupt k).Inv :=
  inv_trapEntry (s := { s with run := .running }) (inv_of_unrelated h rfl rfl rfl rfl rfl rfl rfl) k _

/-- The reset sequence establishes it from any state whose memory is in canonical form (70_reset_and_hazards.md
R400). -/
theorem inv_resetSequence {s : State} (h : Memory.wf s.mem = true) : s.resetSequence.Inv := by
  refine ⟨h, fun _ => ?_, fun _ => ?_, fun _ => ?_⟩
  · simp only [flag_def, State.resetSequence, resetP, flagOf_withFlag]
    exact ⟨rfl, rfl⟩
  · simp [State.resetSequence]
  · simp [State.resetSequence]

/-- One byte of a block move keeps it (48_block_move.md R320). -/
theorem inv_blockStep {s : State} (h : s.Inv) (delta : Word) (dst src : Byte) : (blockStep delta dst src s).Inv :=
  inv_of_same_widths h (Memory.wf_write h.1 _ _) rfl rfl rfl
    (fun e => ⟨hi_setWidth_wx s _ e, hi_setWidth_wx s _ e⟩) h.2.2.2

/-- What a boundary decides keeps it (60_exceptions.md R358). -/
theorem inv_boundary {s t : State} (h : s.Inv) (hb : s.boundary = some t) : t.Inv := by
  have hn : ({ s with nmiPending := false } : State).Inv := inv_of_unrelated h rfl rfl rfl rfl rfl rfl rfl
  unfold State.boundary at hb
  repeat' split at hb
  all_goals first
    | (cases hb; done)
    | (injection hb with hb; subst hb
       first
        | exact inv_resetSequence h.1
        | exact h
        | exact inv_takeInterrupt h _
        | exact inv_takeInterrupt hn _)

/-! The shared operations of the meanings. -/

variable {s : State}

theorem inv_loadA (h : s.Inv) (op : Byte) (o : DataOperand) : (loadA op o s).Inv :=
  inv_setNZ (inv_setAcc h _ _) _

theorem inv_loadX (h : s.Inv) (op : Byte) (o : DataOperand) : (loadX op o s).Inv := inv_setNZ (inv_setX h _) _

theorem inv_loadY (h : s.Inv) (op : Byte) (o : DataOperand) : (loadY op o s).Inv := inv_setNZ (inv_setY h _) _

theorem inv_drawWord (h : s.Inv) : s.drawWord.2.Inv := inv_of_unrelated h rfl rfl rfl rfl rfl rfl rfl

theorem inv_setArith (h : s.Inv) (w : Width) (r : Arith w.bits) : (setArith w r s).Inv :=
  inv_setNZ (inv_setAcc (inv_setFlag (inv_setFlag h _ (by decide) (by decide)) _ (by decide) (by decide)) _ _) _

theorem inv_setDecimal (h : s.Inv) (w : Width) (r : BitVec w.bits × Bool) : (setDecimal w r s).Inv :=
  inv_setNZ (inv_setAcc (inv_setFlagFree (inv_setFlag h _ (by decide) (by decide)) (by decide) (by decide)) _ _) _

theorem inv_setUnspecified (h : s.Inv) (w : Width) : (setUnspecified w s).Inv :=
  inv_setFlagFree (inv_setFlagFree (inv_setFlagFree (inv_setFlagFree (inv_setAcc (inv_drawWord h) _ _) (by decide) (by decide)) (by decide)
    (by decide)) (by decide) (by decide)) (by decide) (by decide)

theorem inv_decimalOp (h : s.Inv) (g : DecimalDef) (f : DecimalFn) (w : Width) (a m : BitVec w.bits) :
    (decimalOp g f w a m s).Inv := by
  unfold decimalOp; split
  · split
    · exact inv_setDecimal h _ _
    · exact inv_setUnspecified h _
  · exact inv_setArith h _ _

theorem inv_adc (h : s.Inv) (op : Byte) (o : DataOperand) : (adc op o s).Inv := by
  unfold adc; dsimp only; split
  · exact inv_decimalOp h _ _ _ _ _
  · exact inv_setArith h _ _

theorem inv_sbc (h : s.Inv) (op : Byte) (o : DataOperand) : (sbc op o s).Inv := by
  unfold sbc; dsimp only; split
  · exact inv_decimalOp h _ _ _ _ _
  · exact inv_setArith h _ _

theorem inv_logic (h : s.Inv) (f : (n : Nat) → BitVec n → BitVec n → BitVec n) (op : Byte) (o : DataOperand) : (logic f op o s).Inv :=
  inv_setNZ (inv_setAcc h _ _) _

theorem inv_setCompare (h : s.Inv) {n : Nat} (a b : BitVec n) : (setCompare a b s).Inv :=
  inv_setNZ (inv_setFlag h _ (by decide) (by decide)) _

theorem inv_testZ (h : s.Inv) {n : Nat} (a m : BitVec n) : (testZ a m s).Inv :=
  inv_setFlag h _ (by decide) (by decide)

theorem inv_topBits (h : s.Inv) {n : Nat} (m : BitVec n) : (topBits m s).Inv :=
  inv_setFlag (inv_setFlag h _ (by decide) (by decide)) _ (by decide) (by decide)

theorem inv_testedFlags (h : s.Inv) : (testedFlags s).Inv := by
  unfold testedFlags; split
  · exact inv_setFlagFree (inv_setFlagFree h (by decide) (by decide)) (by decide) (by decide)
  · exact h

theorem inv_profileNZ (h : s.Inv) {n : Nat} (v : BitVec n) : (profileNZ v s).Inv := by
  unfold profileNZ; split
  · exact h
  · exact inv_setNZ h v

theorem inv_bitMemory (h : s.Inv) (op : Byte) (o : Mode) : (bitMemory op o s).Inv := inv_topBits (inv_testZ h _ _) _

theorem inv_bitImmediate (h : s.Inv) (op : Byte) (o : Imm) : (bitImmediate op o s).Inv := by
  unfold bitImmediate; dsimp only; split
  · exact inv_topBits (inv_testZ h _ _) _
  · exact inv_testZ h _ _

theorem inv_testAndModify (h : s.Inv) (f : (n : Nat) → BitVec n → BitVec n → BitVec n) (op : Byte) (o : Mode) :
    (testAndModify f op o s).Inv :=
  inv_testedFlags (inv_testZ (inv_mem h (Memory.wf_writeW h.1 _ _ _ _)) _ _)

theorem inv_modifyMemory (h : s.Inv) (f : Modify) (op : Byte) (o : Mode) : (modifyMemory f op o s).Inv :=
  inv_setNZ (inv_setCarry (inv_mem h (Memory.wf_writeW h.1 _ _ _ _)) _) _

theorem inv_modifyAcc (h : s.Inv) (f : Modify) : (modifyAcc f s).Inv :=
  inv_setNZ (inv_setCarry (inv_setAcc h _ _) _) _

theorem inv_stepX (h : s.Inv) (f : Modify) : (stepX f s).Inv := inv_setNZ (inv_setX h _) _

theorem inv_stepY (h : s.Inv) (f : Modify) : (stepY f s).Inv := inv_setNZ (inv_setY h _) _

theorem inv_pc (h : s.Inv) (p : Word) (q : Byte) : ({ s with pc := p, pbr := q } : State).Inv :=
  inv_of_unrelated h rfl rfl rfl rfl rfl rfl rfl

theorem inv_branchIf (h : s.Inv) (b : Bool) (r : Byte) : (branchIf b r s).Inv := inv_pc h _ s.pbr

theorem inv_jump (h : s.Inv) (w : Word) : (jump w s).Inv := inv_pc h _ s.pbr

theorem inv_jumpLong (h : s.Inv) (w : Addr) : (jumpLong w s).Inv := inv_pc h _ _

theorem inv_callAbs (h : s.Inv) (w : Word) : (callAbs w s).Inv := inv_jump (inv_push16 h _) _

theorem inv_callTable (h : s.Inv) (w : Word) : (callTable w s).Inv := inv_jump (inv_push16 h _) _

theorem inv_callLong (h : s.Inv) (w : Addr) : (callLong w s).Inv :=
  inv_jumpLong (inv_push16 (inv_push8 h _) _) _

theorem inv_returnNear (h : s.Inv) : (returnNear s).Inv := inv_jump (inv_pull16 h) _

theorem inv_returnLong (h : s.Inv) : (returnLong s).Inv := inv_pc (inv_pull8 (inv_pull16 h)) _ _

theorem inv_pullA (h : s.Inv) : (pullA s).Inv := inv_setNZ (inv_setAcc (inv_pullW h _) _ _) _

theorem inv_pullX (h : s.Inv) : (pullX s).Inv := by
  have hp := inv_pullW h s.wx
  exact inv_setNZ (inv_of_same_widths (t := (s.pullW s.wx).2.setX (s.pullW s.wx).1) hp hp.1 (by simp) (by simp [flag_def]) (by simp [flag_def]) (fun e => ⟨hi_setWidth_wx s _ (by simpa [State.x8, flag_def] using e), (hp.2.2.1 e).2⟩) hp.2.2.2) _

theorem inv_pullY (h : s.Inv) : (pullY s).Inv := by
  have hp := inv_pullW h s.wx
  exact inv_setNZ (inv_of_same_widths (t := (s.pullW s.wx).2.setY (s.pullW s.wx).1) hp hp.1 (by simp) (by simp [flag_def]) (by simp [flag_def]) (fun e => ⟨(hp.2.2.1 e).1, hi_setWidth_wx s _ (by simpa [State.x8, flag_def] using e)⟩) hp.2.2.2) _

theorem inv_pullDbr (h : s.Inv) : (pullDbr s).Inv :=
  inv_profileNZ (s := { s.pull8.2 with dbr := s.pull8.1 }) (inv_of_unrelated (inv_pull8 h) rfl rfl rfl rfl rfl rfl rfl) _

theorem inv_pullD (h : s.Inv) : (pullD s).Inv :=
  inv_profileNZ (s := { s.pull16.2 with d := s.pull16.1 }) (inv_of_unrelated (inv_pull16 h) rfl rfl rfl rfl rfl rfl rfl) _

theorem inv_transferToX (h : s.Inv) (v : Word) : (transferToX v s).Inv := inv_setNZ (inv_setX h _) _

theorem inv_transferToY (h : s.Inv) (v : Word) : (transferToY v s).Inv := inv_setNZ (inv_setY h _) _

theorem inv_transferToA (h : s.Inv) (v : Word) : (transferToA v s).Inv := inv_setNZ (inv_setAcc h _ _) _

theorem inv_transferToC (h : s.Inv) (v : Word) : (transferToC v s).Inv :=
  inv_setNZ (s := {s with a := v}) (inv_of_unrelated h rfl rfl rfl rfl rfl rfl rfl) _

theorem inv_transferXY (h : s.Inv) : (transferXY s).Inv :=
  inv_setNZ (s := {s with y := s.x}) (inv_of_same_widths h h.1 rfl rfl rfl (fun e => ⟨(h.2.2.1 e).1, (h.2.2.1 e).1⟩) h.2.2.2) _

theorem inv_transferYX (h : s.Inv) : (transferYX s).Inv :=
  inv_setNZ (s := {s with x := s.y}) (inv_of_same_widths h h.1 rfl rfl rfl (fun e => ⟨(h.2.2.1 e).2, (h.2.2.1 e).2⟩) h.2.2.2) _

theorem inv_transferToS (h : s.Inv) (v : Word) : (transferToS v s).Inv :=
  inv_of_same_widths h h.1 rfl rfl rfl h.2.2.1 (fun e => by simp [transferToS, e, h.2.2.2 e])

theorem inv_transferToD (h : s.Inv) : (transferToD s).Inv :=
  inv_profileNZ (s := { s with d := s.a }) (inv_of_unrelated h rfl rfl rfl rfl rfl rfl rfl) _

theorem inv_exchangeHalves (h : s.Inv) : (exchangeHalves s).Inv :=
  inv_profileNZ (s := { s with a := word (lo s.a) (hi s.a) }) (inv_of_unrelated h rfl rfl rfl rfl rfl rfl rfl) _

theorem inv_run (h : s.Inv) (r : RunState) : ({ s with run := r } : State).Inv :=
  inv_of_unrelated h rfl rfl rfl rfl rfl rfl rfl

theorem inv_storeA (h : s.Inv) (op : Byte) (m : Mode) : (storeA op m s).Inv := inv_storeOperand h _ _ _ _

theorem inv_storeX (h : s.Inv) (op : Byte) (m : Mode) : (storeX op m s).Inv := inv_storeOperand h _ _ _ _

theorem inv_storeY (h : s.Inv) (op : Byte) (m : Mode) : (storeY op m s).Inv := inv_storeOperand h _ _ _ _

theorem inv_storeZ (h : s.Inv) (op : Byte) (m : Mode) : (storeZ op m s).Inv := inv_storeOperand h _ _ _ _

theorem inv_cmp (h : s.Inv) (op : Byte) (o : DataOperand) : (cmp op o s).Inv := inv_setCompare h _ _

theorem inv_cpx (h : s.Inv) (op : Byte) (o : DataOperand) : (cpx op o s).Inv := inv_setCompare h _ _

theorem inv_cpy (h : s.Inv) (op : Byte) (o : DataOperand) : (cpy op o s).Inv := inv_setCompare h _ _

theorem inv_pushIndirect (h : s.Inv) (op zp : Byte) : (pushIndirect op zp s).Inv := inv_push16 h _

theorem inv_pushRelative (h : s.Inv) (r : Word) : (pushRelative r s).Inv := inv_push16 h _

end Sys2Proof.Machine
end

