-- ==== Sys2Proof/Laws/Exec.lean ====
section
/-! SUPPORT. What `exec` answers for each family of rows: the shared operation at the row's own opcode, and the PC moved
on by its length. A proof about a family cites these and needs no case split over the constructors. -/

namespace Sys2Proof.Machine

theorem exec_lda {i : Instr} {o : DataOperand} (s : State) (hm : i.mnemonic = .lda) (hf : i.form = .data o) :
    exec i s = .next ((loadA i.opcode o s).advance i.length) := by
  cases i <;> cases hm <;> cases hf <;> rfl

theorem exec_ldx {i : Instr} {o : DataOperand} (s : State) (hm : i.mnemonic = .ldx) (hf : i.form = .data o) :
    exec i s = .next ((loadX i.opcode o s).advance i.length) := by
  cases i <;> cases hm <;> cases hf <;> rfl

theorem exec_ldy {i : Instr} {o : DataOperand} (s : State) (hm : i.mnemonic = .ldy) (hf : i.form = .data o) :
    exec i s = .next ((loadY i.opcode o s).advance i.length) := by
  cases i <;> cases hm <;> cases hf <;> rfl

theorem exec_adc {i : Instr} {o : DataOperand} (s : State) (hm : i.mnemonic = .adc) (hf : i.form = .data o) :
    exec i s = .next ((adc i.opcode o s).advance i.length) := by
  cases i <;> cases hm <;> cases hf <;> rfl

theorem exec_sbc {i : Instr} {o : DataOperand} (s : State) (hm : i.mnemonic = .sbc) (hf : i.form = .data o) :
    exec i s = .next ((sbc i.opcode o s).advance i.length) := by
  cases i <;> cases hm <;> cases hf <;> rfl

theorem exec_and {i : Instr} {o : DataOperand} (s : State) (hm : i.mnemonic = .and) (hf : i.form = .data o) :
    exec i s = .next ((logic andOf i.opcode o s).advance i.length) := by
  cases i <;> cases hm <;> cases hf <;> rfl

theorem exec_eor {i : Instr} {o : DataOperand} (s : State) (hm : i.mnemonic = .eor) (hf : i.form = .data o) :
    exec i s = .next ((logic eorOf i.opcode o s).advance i.length) := by
  cases i <;> cases hm <;> cases hf <;> rfl

theorem exec_ora {i : Instr} {o : DataOperand} (s : State) (hm : i.mnemonic = .ora) (hf : i.form = .data o) :
    exec i s = .next ((logic oraOf i.opcode o s).advance i.length) := by
  cases i <;> cases hm <;> cases hf <;> rfl

theorem exec_cmp {i : Instr} {o : DataOperand} (s : State) (hm : i.mnemonic = .cmp) (hf : i.form = .data o) :
    exec i s = .next ((cmp i.opcode o s).advance i.length) := by
  cases i <;> cases hm <;> cases hf <;> rfl

theorem exec_cpx {i : Instr} {o : DataOperand} (s : State) (hm : i.mnemonic = .cpx) (hf : i.form = .data o) :
    exec i s = .next ((cpx i.opcode o s).advance i.length) := by
  cases i <;> cases hm <;> cases hf <;> rfl

theorem exec_cpy {i : Instr} {o : DataOperand} (s : State) (hm : i.mnemonic = .cpy) (hf : i.form = .data o) :
    exec i s = .next ((cpy i.opcode o s).advance i.length) := by
  cases i <;> cases hm <;> cases hf <;> rfl

theorem exec_sta {i : Instr} {m : Mode} (s : State) (hm : i.mnemonic = .sta) (hf : i.form = .data (.mem m)) :
    exec i s = .next ((storeA i.opcode m s).advance i.length) := by
  cases i <;> cases hm <;> cases hf <;> rfl

theorem exec_stx {i : Instr} {m : Mode} (s : State) (hm : i.mnemonic = .stx) (hf : i.form = .data (.mem m)) :
    exec i s = .next ((storeX i.opcode m s).advance i.length) := by
  cases i <;> cases hm <;> cases hf <;> rfl

theorem exec_sty {i : Instr} {m : Mode} (s : State) (hm : i.mnemonic = .sty) (hf : i.form = .data (.mem m)) :
    exec i s = .next ((storeY i.opcode m s).advance i.length) := by
  cases i <;> cases hm <;> cases hf <;> rfl

theorem exec_stz {i : Instr} {m : Mode} (s : State) (hm : i.mnemonic = .stz) (hf : i.form = .data (.mem m)) :
    exec i s = .next ((storeZ i.opcode m s).advance i.length) := by
  cases i <;> cases hm <;> cases hf <;> rfl

theorem exec_trb {i : Instr} {m : Mode} (s : State) (hm : i.mnemonic = .trb) (hf : i.form = .data (.mem m)) :
    exec i s = .next ((testAndModify resetBits i.opcode m s).advance i.length) := by
  cases i <;> cases hm <;> cases hf <;> rfl

theorem exec_tsb {i : Instr} {m : Mode} (s : State) (hm : i.mnemonic = .tsb) (hf : i.form = .data (.mem m)) :
    exec i s = .next ((testAndModify setBits i.opcode m s).advance i.length) := by
  cases i <;> cases hm <;> cases hf <;> rfl

theorem exec_bit {i : Instr} {m : Mode} (s : State) (hm : i.mnemonic = .bit) (hf : i.form = .data (.mem m)) :
    exec i s = .next ((bitMemory i.opcode m s).advance i.length) := by
  cases i <;> cases hm <;> cases hf <;> rfl

theorem exec_asl {i : Instr} {m : Mode} (s : State) (hm : i.mnemonic = .asl) (hf : i.form = .data (.mem m)) :
    exec i s = .next ((modifyMemory aslOf i.opcode m s).advance i.length) := by
  cases i <;> cases hm <;> cases hf <;> rfl

theorem exec_lsr {i : Instr} {m : Mode} (s : State) (hm : i.mnemonic = .lsr) (hf : i.form = .data (.mem m)) :
    exec i s = .next ((modifyMemory lsrOf i.opcode m s).advance i.length) := by
  cases i <;> cases hm <;> cases hf <;> rfl

theorem exec_rol {i : Instr} {m : Mode} (s : State) (hm : i.mnemonic = .rol) (hf : i.form = .data (.mem m)) :
    exec i s = .next ((modifyMemory rolOf i.opcode m s).advance i.length) := by
  cases i <;> cases hm <;> cases hf <;> rfl

theorem exec_ror {i : Instr} {m : Mode} (s : State) (hm : i.mnemonic = .ror) (hf : i.form = .data (.mem m)) :
    exec i s = .next ((modifyMemory rorOf i.opcode m s).advance i.length) := by
  cases i <;> cases hm <;> cases hf <;> rfl

theorem exec_inc {i : Instr} {m : Mode} (s : State) (hm : i.mnemonic = .inc) (hf : i.form = .data (.mem m)) :
    exec i s = .next ((modifyMemory incOf i.opcode m s).advance i.length) := by
  cases i <;> cases hm <;> cases hf <;> rfl

theorem exec_dec {i : Instr} {m : Mode} (s : State) (hm : i.mnemonic = .dec) (hf : i.form = .data (.mem m)) :
    exec i s = .next ((modifyMemory decOf i.opcode m s).advance i.length) := by
  cases i <;> cases hm <;> cases hf <;> rfl

theorem exec_asl_acc {i : Instr} (s : State) (hm : i.mnemonic = .asl) (hf : i.form = .acc) :
    exec i s = .next ((modifyAcc aslOf s).advance i.length) := by
  cases i <;> cases hm <;> cases hf
  rfl

theorem exec_lsr_acc {i : Instr} (s : State) (hm : i.mnemonic = .lsr) (hf : i.form = .acc) :
    exec i s = .next ((modifyAcc lsrOf s).advance i.length) := by
  cases i <;> cases hm <;> cases hf
  rfl

theorem exec_rol_acc {i : Instr} (s : State) (hm : i.mnemonic = .rol) (hf : i.form = .acc) :
    exec i s = .next ((modifyAcc rolOf s).advance i.length) := by
  cases i <;> cases hm <;> cases hf
  rfl

theorem exec_ror_acc {i : Instr} (s : State) (hm : i.mnemonic = .ror) (hf : i.form = .acc) :
    exec i s = .next ((modifyAcc rorOf s).advance i.length) := by
  cases i <;> cases hm <;> cases hf
  rfl

theorem exec_inc_acc {i : Instr} (s : State) (hm : i.mnemonic = .inc) (hf : i.form = .acc) :
    exec i s = .next ((modifyAcc incOf s).advance i.length) := by
  cases i <;> cases hm <;> cases hf
  rfl

theorem exec_dec_acc {i : Instr} (s : State) (hm : i.mnemonic = .dec) (hf : i.form = .acc) :
    exec i s = .next ((modifyAcc decOf s).advance i.length) := by
  cases i <;> cases hm <;> cases hf
  rfl

end Sys2Proof.Machine
end

