-- ==== Sys2Proof/Laws/PerInstr.lean ====
section
/-! SUPPORT. Statements made per instruction. `EncodedLength`: an instruction's encoding has the length its format
gives it and begins with its opcode (30_encoding.md R90, R91, R97). -/

/-- The encoding of `i` begins with its opcode byte and has as many bytes as `i` is long. -/
def Sys2Proof.Laws.EncodedLength.Statement (i : Sys2Proof.Instr) : Prop :=
  (Sys2Proof.encode i).head? = some i.opcode ∧ (Sys2Proof.encode i).length = i.length

theorem Sys2Proof.Laws.EncodedLength.brk (sig : Sys2Proof.Byte) :
    Sys2Proof.Laws.EncodedLength.Statement (.brk sig) := ⟨rfl, rfl⟩
theorem Sys2Proof.Laws.EncodedLength.oraZpXInd (zp : Sys2Proof.Byte) :
    Sys2Proof.Laws.EncodedLength.Statement (.oraZpXInd zp) := ⟨rfl, rfl⟩
theorem Sys2Proof.Laws.EncodedLength.cop (imm8 : Sys2Proof.Byte) :
    Sys2Proof.Laws.EncodedLength.Statement (.cop imm8) := ⟨rfl, rfl⟩
theorem Sys2Proof.Laws.EncodedLength.oraSr (ds : Sys2Proof.Byte) :
    Sys2Proof.Laws.EncodedLength.Statement (.oraSr ds) := ⟨rfl, rfl⟩
theorem Sys2Proof.Laws.EncodedLength.tsbZp (zp : Sys2Proof.Byte) :
    Sys2Proof.Laws.EncodedLength.Statement (.tsbZp zp) := ⟨rfl, rfl⟩
theorem Sys2Proof.Laws.EncodedLength.oraZp (zp : Sys2Proof.Byte) :
    Sys2Proof.Laws.EncodedLength.Statement (.oraZp zp) := ⟨rfl, rfl⟩
theorem Sys2Proof.Laws.EncodedLength.aslZp (zp : Sys2Proof.Byte) :
    Sys2Proof.Laws.EncodedLength.Statement (.aslZp zp) := ⟨rfl, rfl⟩
theorem Sys2Proof.Laws.EncodedLength.oraZpIndLong (zp : Sys2Proof.Byte) :
    Sys2Proof.Laws.EncodedLength.Statement (.oraZpIndLong zp) := ⟨rfl, rfl⟩
theorem Sys2Proof.Laws.EncodedLength.php :
    Sys2Proof.Laws.EncodedLength.Statement .php := ⟨rfl, rfl⟩
theorem Sys2Proof.Laws.EncodedLength.oraImm (v : Sys2Proof.Imm) :
    Sys2Proof.Laws.EncodedLength.Statement (.oraImm v) := by cases v <;> exact ⟨rfl, rfl⟩
theorem Sys2Proof.Laws.EncodedLength.aslAcc :
    Sys2Proof.Laws.EncodedLength.Statement .aslAcc := ⟨rfl, rfl⟩
theorem Sys2Proof.Laws.EncodedLength.phd :
    Sys2Proof.Laws.EncodedLength.Statement .phd := ⟨rfl, rfl⟩
theorem Sys2Proof.Laws.EncodedLength.tsbAbs (abs : Sys2Proof.Word) :
    Sys2Proof.Laws.EncodedLength.Statement (.tsbAbs abs) := ⟨rfl, rfl⟩
theorem Sys2Proof.Laws.EncodedLength.oraAbs (abs : Sys2Proof.Word) :
    Sys2Proof.Laws.EncodedLength.Statement (.oraAbs abs) := ⟨rfl, rfl⟩
theorem Sys2Proof.Laws.EncodedLength.aslAbs (abs : Sys2Proof.Word) :
    Sys2Proof.Laws.EncodedLength.Statement (.aslAbs abs) := ⟨rfl, rfl⟩
theorem Sys2Proof.Laws.EncodedLength.oraLong (long : Sys2Proof.Addr) :
    Sys2Proof.Laws.EncodedLength.Statement (.oraLong long) := ⟨rfl, rfl⟩
theorem Sys2Proof.Laws.EncodedLength.bpl (rel : Sys2Proof.Byte) :
    Sys2Proof.Laws.EncodedLength.Statement (.bpl rel) := ⟨rfl, rfl⟩
theorem Sys2Proof.Laws.EncodedLength.oraZpIndY (zp : Sys2Proof.Byte) :
    Sys2Proof.Laws.EncodedLength.Statement (.oraZpIndY zp) := ⟨rfl, rfl⟩
theorem Sys2Proof.Laws.EncodedLength.oraZpInd (zp : Sys2Proof.Byte) :
    Sys2Proof.Laws.EncodedLength.Statement (.oraZpInd zp) := ⟨rfl, rfl⟩
theorem Sys2Proof.Laws.EncodedLength.oraSrIndY (ds : Sys2Proof.Byte) :
    Sys2Proof.Laws.EncodedLength.Statement (.oraSrIndY ds) := ⟨rfl, rfl⟩
theorem Sys2Proof.Laws.EncodedLength.trbZp (zp : Sys2Proof.Byte) :
    Sys2Proof.Laws.EncodedLength.Statement (.trbZp zp) := ⟨rfl, rfl⟩
theorem Sys2Proof.Laws.EncodedLength.oraZpX (zp : Sys2Proof.Byte) :
    Sys2Proof.Laws.EncodedLength.Statement (.oraZpX zp) := ⟨rfl, rfl⟩
theorem Sys2Proof.Laws.EncodedLength.aslZpX (zp : Sys2Proof.Byte) :
    Sys2Proof.Laws.EncodedLength.Statement (.aslZpX zp) := ⟨rfl, rfl⟩
theorem Sys2Proof.Laws.EncodedLength.oraZpIndLongY (zp : Sys2Proof.Byte) :
    Sys2Proof.Laws.EncodedLength.Statement (.oraZpIndLongY zp) := ⟨rfl, rfl⟩
theorem Sys2Proof.Laws.EncodedLength.clc :
    Sys2Proof.Laws.EncodedLength.Statement .clc := ⟨rfl, rfl⟩
theorem Sys2Proof.Laws.EncodedLength.oraAbsY (abs : Sys2Proof.Word) :
    Sys2Proof.Laws.EncodedLength.Statement (.oraAbsY abs) := ⟨rfl, rfl⟩
theorem Sys2Proof.Laws.EncodedLength.incAcc :
    Sys2Proof.Laws.EncodedLength.Statement .incAcc := ⟨rfl, rfl⟩
theorem Sys2Proof.Laws.EncodedLength.tcs :
    Sys2Proof.Laws.EncodedLength.Statement .tcs := ⟨rfl, rfl⟩
theorem Sys2Proof.Laws.EncodedLength.trbAbs (abs : Sys2Proof.Word) :
    Sys2Proof.Laws.EncodedLength.Statement (.trbAbs abs) := ⟨rfl, rfl⟩
theorem Sys2Proof.Laws.EncodedLength.oraAbsX (abs : Sys2Proof.Word) :
    Sys2Proof.Laws.EncodedLength.Statement (.oraAbsX abs) := ⟨rfl, rfl⟩
theorem Sys2Proof.Laws.EncodedLength.aslAbsX (abs : Sys2Proof.Word) :
    Sys2Proof.Laws.EncodedLength.Statement (.aslAbsX abs) := ⟨rfl, rfl⟩
theorem Sys2Proof.Laws.EncodedLength.oraLongX (long : Sys2Proof.Addr) :
    Sys2Proof.Laws.EncodedLength.Statement (.oraLongX long) := ⟨rfl, rfl⟩
theorem Sys2Proof.Laws.EncodedLength.jsrAbs (abs : Sys2Proof.Word) :
    Sys2Proof.Laws.EncodedLength.Statement (.jsrAbs abs) := ⟨rfl, rfl⟩
theorem Sys2Proof.Laws.EncodedLength.andZpXInd (zp : Sys2Proof.Byte) :
    Sys2Proof.Laws.EncodedLength.Statement (.andZpXInd zp) := ⟨rfl, rfl⟩
theorem Sys2Proof.Laws.EncodedLength.jsrLong (long : Sys2Proof.Addr) :
    Sys2Proof.Laws.EncodedLength.Statement (.jsrLong long) := ⟨rfl, rfl⟩
theorem Sys2Proof.Laws.EncodedLength.andSr (ds : Sys2Proof.Byte) :
    Sys2Proof.Laws.EncodedLength.Statement (.andSr ds) := ⟨rfl, rfl⟩
theorem Sys2Proof.Laws.EncodedLength.bitZp (zp : Sys2Proof.Byte) :
    Sys2Proof.Laws.EncodedLength.Statement (.bitZp zp) := ⟨rfl, rfl⟩
theorem Sys2Proof.Laws.EncodedLength.andZp (zp : Sys2Proof.Byte) :
    Sys2Proof.Laws.EncodedLength.Statement (.andZp zp) := ⟨rfl, rfl⟩
theorem Sys2Proof.Laws.EncodedLength.rolZp (zp : Sys2Proof.Byte) :
    Sys2Proof.Laws.EncodedLength.Statement (.rolZp zp) := ⟨rfl, rfl⟩
theorem Sys2Proof.Laws.EncodedLength.andZpIndLong (zp : Sys2Proof.Byte) :
    Sys2Proof.Laws.EncodedLength.Statement (.andZpIndLong zp) := ⟨rfl, rfl⟩
theorem Sys2Proof.Laws.EncodedLength.plp :
    Sys2Proof.Laws.EncodedLength.Statement .plp := ⟨rfl, rfl⟩
theorem Sys2Proof.Laws.EncodedLength.andImm (v : Sys2Proof.Imm) :
    Sys2Proof.Laws.EncodedLength.Statement (.andImm v) := by cases v <;> exact ⟨rfl, rfl⟩
theorem Sys2Proof.Laws.EncodedLength.rolAcc :
    Sys2Proof.Laws.EncodedLength.Statement .rolAcc := ⟨rfl, rfl⟩
theorem Sys2Proof.Laws.EncodedLength.pld :
    Sys2Proof.Laws.EncodedLength.Statement .pld := ⟨rfl, rfl⟩
theorem Sys2Proof.Laws.EncodedLength.bitAbs (abs : Sys2Proof.Word) :
    Sys2Proof.Laws.EncodedLength.Statement (.bitAbs abs) := ⟨rfl, rfl⟩
theorem Sys2Proof.Laws.EncodedLength.andAbs (abs : Sys2Proof.Word) :
    Sys2Proof.Laws.EncodedLength.Statement (.andAbs abs) := ⟨rfl, rfl⟩
theorem Sys2Proof.Laws.EncodedLength.rolAbs (abs : Sys2Proof.Word) :
    Sys2Proof.Laws.EncodedLength.Statement (.rolAbs abs) := ⟨rfl, rfl⟩
theorem Sys2Proof.Laws.EncodedLength.andLong (long : Sys2Proof.Addr) :
    Sys2Proof.Laws.EncodedLength.Statement (.andLong long) := ⟨rfl, rfl⟩
theorem Sys2Proof.Laws.EncodedLength.bmi (rel : Sys2Proof.Byte) :
    Sys2Proof.Laws.EncodedLength.Statement (.bmi rel) := ⟨rfl, rfl⟩
theorem Sys2Proof.Laws.EncodedLength.andZpIndY (zp : Sys2Proof.Byte) :
    Sys2Proof.Laws.EncodedLength.Statement (.andZpIndY zp) := ⟨rfl, rfl⟩
theorem Sys2Proof.Laws.EncodedLength.andZpInd (zp : Sys2Proof.Byte) :
    Sys2Proof.Laws.EncodedLength.Statement (.andZpInd zp) := ⟨rfl, rfl⟩
theorem Sys2Proof.Laws.EncodedLength.andSrIndY (ds : Sys2Proof.Byte) :
    Sys2Proof.Laws.EncodedLength.Statement (.andSrIndY ds) := ⟨rfl, rfl⟩
theorem Sys2Proof.Laws.EncodedLength.bitZpX (zp : Sys2Proof.Byte) :
    Sys2Proof.Laws.EncodedLength.Statement (.bitZpX zp) := ⟨rfl, rfl⟩
theorem Sys2Proof.Laws.EncodedLength.andZpX (zp : Sys2Proof.Byte) :
    Sys2Proof.Laws.EncodedLength.Statement (.andZpX zp) := ⟨rfl, rfl⟩
theorem Sys2Proof.Laws.EncodedLength.rolZpX (zp : Sys2Proof.Byte) :
    Sys2Proof.Laws.EncodedLength.Statement (.rolZpX zp) := ⟨rfl, rfl⟩
theorem Sys2Proof.Laws.EncodedLength.andZpIndLongY (zp : Sys2Proof.Byte) :
    Sys2Proof.Laws.EncodedLength.Statement (.andZpIndLongY zp) := ⟨rfl, rfl⟩
theorem Sys2Proof.Laws.EncodedLength.sec :
    Sys2Proof.Laws.EncodedLength.Statement .sec := ⟨rfl, rfl⟩
theorem Sys2Proof.Laws.EncodedLength.andAbsY (abs : Sys2Proof.Word) :
    Sys2Proof.Laws.EncodedLength.Statement (.andAbsY abs) := ⟨rfl, rfl⟩
theorem Sys2Proof.Laws.EncodedLength.decAcc :
    Sys2Proof.Laws.EncodedLength.Statement .decAcc := ⟨rfl, rfl⟩
theorem Sys2Proof.Laws.EncodedLength.tsc :
    Sys2Proof.Laws.EncodedLength.Statement .tsc := ⟨rfl, rfl⟩
theorem Sys2Proof.Laws.EncodedLength.bitAbsX (abs : Sys2Proof.Word) :
    Sys2Proof.Laws.EncodedLength.Statement (.bitAbsX abs) := ⟨rfl, rfl⟩
theorem Sys2Proof.Laws.EncodedLength.andAbsX (abs : Sys2Proof.Word) :
    Sys2Proof.Laws.EncodedLength.Statement (.andAbsX abs) := ⟨rfl, rfl⟩
theorem Sys2Proof.Laws.EncodedLength.rolAbsX (abs : Sys2Proof.Word) :
    Sys2Proof.Laws.EncodedLength.Statement (.rolAbsX abs) := ⟨rfl, rfl⟩
theorem Sys2Proof.Laws.EncodedLength.andLongX (long : Sys2Proof.Addr) :
    Sys2Proof.Laws.EncodedLength.Statement (.andLongX long) := ⟨rfl, rfl⟩
theorem Sys2Proof.Laws.EncodedLength.rti :
    Sys2Proof.Laws.EncodedLength.Statement .rti := ⟨rfl, rfl⟩
theorem Sys2Proof.Laws.EncodedLength.eorZpXInd (zp : Sys2Proof.Byte) :
    Sys2Proof.Laws.EncodedLength.Statement (.eorZpXInd zp) := ⟨rfl, rfl⟩
theorem Sys2Proof.Laws.EncodedLength.wdm :
    Sys2Proof.Laws.EncodedLength.Statement .wdm := ⟨rfl, rfl⟩
theorem Sys2Proof.Laws.EncodedLength.eorSr (ds : Sys2Proof.Byte) :
    Sys2Proof.Laws.EncodedLength.Statement (.eorSr ds) := ⟨rfl, rfl⟩
theorem Sys2Proof.Laws.EncodedLength.mvp (dst : Sys2Proof.Byte) (src : Sys2Proof.Byte) :
    Sys2Proof.Laws.EncodedLength.Statement (.mvp dst src) := ⟨rfl, rfl⟩
theorem Sys2Proof.Laws.EncodedLength.eorZp (zp : Sys2Proof.Byte) :
    Sys2Proof.Laws.EncodedLength.Statement (.eorZp zp) := ⟨rfl, rfl⟩
theorem Sys2Proof.Laws.EncodedLength.lsrZp (zp : Sys2Proof.Byte) :
    Sys2Proof.Laws.EncodedLength.Statement (.lsrZp zp) := ⟨rfl, rfl⟩
theorem Sys2Proof.Laws.EncodedLength.eorZpIndLong (zp : Sys2Proof.Byte) :
    Sys2Proof.Laws.EncodedLength.Statement (.eorZpIndLong zp) := ⟨rfl, rfl⟩
theorem Sys2Proof.Laws.EncodedLength.pha :
    Sys2Proof.Laws.EncodedLength.Statement .pha := ⟨rfl, rfl⟩
theorem Sys2Proof.Laws.EncodedLength.eorImm (v : Sys2Proof.Imm) :
    Sys2Proof.Laws.EncodedLength.Statement (.eorImm v) := by cases v <;> exact ⟨rfl, rfl⟩
theorem Sys2Proof.Laws.EncodedLength.lsrAcc :
    Sys2Proof.Laws.EncodedLength.Statement .lsrAcc := ⟨rfl, rfl⟩
theorem Sys2Proof.Laws.EncodedLength.phk :
    Sys2Proof.Laws.EncodedLength.Statement .phk := ⟨rfl, rfl⟩
theorem Sys2Proof.Laws.EncodedLength.jmpAbs (abs : Sys2Proof.Word) :
    Sys2Proof.Laws.EncodedLength.Statement (.jmpAbs abs) := ⟨rfl, rfl⟩
theorem Sys2Proof.Laws.EncodedLength.eorAbs (abs : Sys2Proof.Word) :
    Sys2Proof.Laws.EncodedLength.Statement (.eorAbs abs) := ⟨rfl, rfl⟩
theorem Sys2Proof.Laws.EncodedLength.lsrAbs (abs : Sys2Proof.Word) :
    Sys2Proof.Laws.EncodedLength.Statement (.lsrAbs abs) := ⟨rfl, rfl⟩
theorem Sys2Proof.Laws.EncodedLength.eorLong (long : Sys2Proof.Addr) :
    Sys2Proof.Laws.EncodedLength.Statement (.eorLong long) := ⟨rfl, rfl⟩
theorem Sys2Proof.Laws.EncodedLength.bvc (rel : Sys2Proof.Byte) :
    Sys2Proof.Laws.EncodedLength.Statement (.bvc rel) := ⟨rfl, rfl⟩
theorem Sys2Proof.Laws.EncodedLength.eorZpIndY (zp : Sys2Proof.Byte) :
    Sys2Proof.Laws.EncodedLength.Statement (.eorZpIndY zp) := ⟨rfl, rfl⟩
theorem Sys2Proof.Laws.EncodedLength.eorZpInd (zp : Sys2Proof.Byte) :
    Sys2Proof.Laws.EncodedLength.Statement (.eorZpInd zp) := ⟨rfl, rfl⟩
theorem Sys2Proof.Laws.EncodedLength.eorSrIndY (ds : Sys2Proof.Byte) :
    Sys2Proof.Laws.EncodedLength.Statement (.eorSrIndY ds) := ⟨rfl, rfl⟩
theorem Sys2Proof.Laws.EncodedLength.mvn (dst : Sys2Proof.Byte) (src : Sys2Proof.Byte) :
    Sys2Proof.Laws.EncodedLength.Statement (.mvn dst src) := ⟨rfl, rfl⟩
theorem Sys2Proof.Laws.EncodedLength.eorZpX (zp : Sys2Proof.Byte) :
    Sys2Proof.Laws.EncodedLength.Statement (.eorZpX zp) := ⟨rfl, rfl⟩
theorem Sys2Proof.Laws.EncodedLength.lsrZpX (zp : Sys2Proof.Byte) :
    Sys2Proof.Laws.EncodedLength.Statement (.lsrZpX zp) := ⟨rfl, rfl⟩
theorem Sys2Proof.Laws.EncodedLength.eorZpIndLongY (zp : Sys2Proof.Byte) :
    Sys2Proof.Laws.EncodedLength.Statement (.eorZpIndLongY zp) := ⟨rfl, rfl⟩
theorem Sys2Proof.Laws.EncodedLength.cli :
    Sys2Proof.Laws.EncodedLength.Statement .cli := ⟨rfl, rfl⟩
theorem Sys2Proof.Laws.EncodedLength.eorAbsY (abs : Sys2Proof.Word) :
    Sys2Proof.Laws.EncodedLength.Statement (.eorAbsY abs) := ⟨rfl, rfl⟩
theorem Sys2Proof.Laws.EncodedLength.phy :
    Sys2Proof.Laws.EncodedLength.Statement .phy := ⟨rfl, rfl⟩
theorem Sys2Proof.Laws.EncodedLength.tcd :
    Sys2Proof.Laws.EncodedLength.Statement .tcd := ⟨rfl, rfl⟩
theorem Sys2Proof.Laws.EncodedLength.jmpLong (long : Sys2Proof.Addr) :
    Sys2Proof.Laws.EncodedLength.Statement (.jmpLong long) := ⟨rfl, rfl⟩
theorem Sys2Proof.Laws.EncodedLength.eorAbsX (abs : Sys2Proof.Word) :
    Sys2Proof.Laws.EncodedLength.Statement (.eorAbsX abs) := ⟨rfl, rfl⟩
theorem Sys2Proof.Laws.EncodedLength.lsrAbsX (abs : Sys2Proof.Word) :
    Sys2Proof.Laws.EncodedLength.Statement (.lsrAbsX abs) := ⟨rfl, rfl⟩
theorem Sys2Proof.Laws.EncodedLength.eorLongX (long : Sys2Proof.Addr) :
    Sys2Proof.Laws.EncodedLength.Statement (.eorLongX long) := ⟨rfl, rfl⟩
theorem Sys2Proof.Laws.EncodedLength.rts :
    Sys2Proof.Laws.EncodedLength.Statement .rts := ⟨rfl, rfl⟩
theorem Sys2Proof.Laws.EncodedLength.adcZpXInd (zp : Sys2Proof.Byte) :
    Sys2Proof.Laws.EncodedLength.Statement (.adcZpXInd zp) := ⟨rfl, rfl⟩
theorem Sys2Proof.Laws.EncodedLength.peaRell (rell : Sys2Proof.Word) :
    Sys2Proof.Laws.EncodedLength.Statement (.peaRell rell) := ⟨rfl, rfl⟩
theorem Sys2Proof.Laws.EncodedLength.adcSr (ds : Sys2Proof.Byte) :
    Sys2Proof.Laws.EncodedLength.Statement (.adcSr ds) := ⟨rfl, rfl⟩
theorem Sys2Proof.Laws.EncodedLength.stzZp (zp : Sys2Proof.Byte) :
    Sys2Proof.Laws.EncodedLength.Statement (.stzZp zp) := ⟨rfl, rfl⟩
theorem Sys2Proof.Laws.EncodedLength.adcZp (zp : Sys2Proof.Byte) :
    Sys2Proof.Laws.EncodedLength.Statement (.adcZp zp) := ⟨rfl, rfl⟩
theorem Sys2Proof.Laws.EncodedLength.rorZp (zp : Sys2Proof.Byte) :
    Sys2Proof.Laws.EncodedLength.Statement (.rorZp zp) := ⟨rfl, rfl⟩
theorem Sys2Proof.Laws.EncodedLength.adcZpIndLong (zp : Sys2Proof.Byte) :
    Sys2Proof.Laws.EncodedLength.Statement (.adcZpIndLong zp) := ⟨rfl, rfl⟩
theorem Sys2Proof.Laws.EncodedLength.pla :
    Sys2Proof.Laws.EncodedLength.Statement .pla := ⟨rfl, rfl⟩
theorem Sys2Proof.Laws.EncodedLength.adcImm (v : Sys2Proof.Imm) :
    Sys2Proof.Laws.EncodedLength.Statement (.adcImm v) := by cases v <;> exact ⟨rfl, rfl⟩
theorem Sys2Proof.Laws.EncodedLength.rorAcc :
    Sys2Proof.Laws.EncodedLength.Statement .rorAcc := ⟨rfl, rfl⟩
theorem Sys2Proof.Laws.EncodedLength.rtl :
    Sys2Proof.Laws.EncodedLength.Statement .rtl := ⟨rfl, rfl⟩
theorem Sys2Proof.Laws.EncodedLength.jmpAbsInd (abs : Sys2Proof.Word) :
    Sys2Proof.Laws.EncodedLength.Statement (.jmpAbsInd abs) := ⟨rfl, rfl⟩
theorem Sys2Proof.Laws.EncodedLength.adcAbs (abs : Sys2Proof.Word) :
    Sys2Proof.Laws.EncodedLength.Statement (.adcAbs abs) := ⟨rfl, rfl⟩
theorem Sys2Proof.Laws.EncodedLength.rorAbs (abs : Sys2Proof.Word) :
    Sys2Proof.Laws.EncodedLength.Statement (.rorAbs abs) := ⟨rfl, rfl⟩
theorem Sys2Proof.Laws.EncodedLength.adcLong (long : Sys2Proof.Addr) :
    Sys2Proof.Laws.EncodedLength.Statement (.adcLong long) := ⟨rfl, rfl⟩
theorem Sys2Proof.Laws.EncodedLength.bvs (rel : Sys2Proof.Byte) :
    Sys2Proof.Laws.EncodedLength.Statement (.bvs rel) := ⟨rfl, rfl⟩
theorem Sys2Proof.Laws.EncodedLength.adcZpIndY (zp : Sys2Proof.Byte) :
    Sys2Proof.Laws.EncodedLength.Statement (.adcZpIndY zp) := ⟨rfl, rfl⟩
theorem Sys2Proof.Laws.EncodedLength.adcZpInd (zp : Sys2Proof.Byte) :
    Sys2Proof.Laws.EncodedLength.Statement (.adcZpInd zp) := ⟨rfl, rfl⟩
theorem Sys2Proof.Laws.EncodedLength.adcSrIndY (ds : Sys2Proof.Byte) :
    Sys2Proof.Laws.EncodedLength.Statement (.adcSrIndY ds) := ⟨rfl, rfl⟩
theorem Sys2Proof.Laws.EncodedLength.stzZpX (zp : Sys2Proof.Byte) :
    Sys2Proof.Laws.EncodedLength.Statement (.stzZpX zp) := ⟨rfl, rfl⟩
theorem Sys2Proof.Laws.EncodedLength.adcZpX (zp : Sys2Proof.Byte) :
    Sys2Proof.Laws.EncodedLength.Statement (.adcZpX zp) := ⟨rfl, rfl⟩
theorem Sys2Proof.Laws.EncodedLength.rorZpX (zp : Sys2Proof.Byte) :
    Sys2Proof.Laws.EncodedLength.Statement (.rorZpX zp) := ⟨rfl, rfl⟩
theorem Sys2Proof.Laws.EncodedLength.adcZpIndLongY (zp : Sys2Proof.Byte) :
    Sys2Proof.Laws.EncodedLength.Statement (.adcZpIndLongY zp) := ⟨rfl, rfl⟩
theorem Sys2Proof.Laws.EncodedLength.sei :
    Sys2Proof.Laws.EncodedLength.Statement .sei := ⟨rfl, rfl⟩
theorem Sys2Proof.Laws.EncodedLength.adcAbsY (abs : Sys2Proof.Word) :
    Sys2Proof.Laws.EncodedLength.Statement (.adcAbsY abs) := ⟨rfl, rfl⟩
theorem Sys2Proof.Laws.EncodedLength.ply :
    Sys2Proof.Laws.EncodedLength.Statement .ply := ⟨rfl, rfl⟩
theorem Sys2Proof.Laws.EncodedLength.tdc :
    Sys2Proof.Laws.EncodedLength.Statement .tdc := ⟨rfl, rfl⟩
theorem Sys2Proof.Laws.EncodedLength.jmpAbsXInd (abs : Sys2Proof.Word) :
    Sys2Proof.Laws.EncodedLength.Statement (.jmpAbsXInd abs) := ⟨rfl, rfl⟩
theorem Sys2Proof.Laws.EncodedLength.adcAbsX (abs : Sys2Proof.Word) :
    Sys2Proof.Laws.EncodedLength.Statement (.adcAbsX abs) := ⟨rfl, rfl⟩
theorem Sys2Proof.Laws.EncodedLength.rorAbsX (abs : Sys2Proof.Word) :
    Sys2Proof.Laws.EncodedLength.Statement (.rorAbsX abs) := ⟨rfl, rfl⟩
theorem Sys2Proof.Laws.EncodedLength.adcLongX (long : Sys2Proof.Addr) :
    Sys2Proof.Laws.EncodedLength.Statement (.adcLongX long) := ⟨rfl, rfl⟩
theorem Sys2Proof.Laws.EncodedLength.braRel (rel : Sys2Proof.Byte) :
    Sys2Proof.Laws.EncodedLength.Statement (.braRel rel) := ⟨rfl, rfl⟩
theorem Sys2Proof.Laws.EncodedLength.staZpXInd (zp : Sys2Proof.Byte) :
    Sys2Proof.Laws.EncodedLength.Statement (.staZpXInd zp) := ⟨rfl, rfl⟩
theorem Sys2Proof.Laws.EncodedLength.braRell (rell : Sys2Proof.Word) :
    Sys2Proof.Laws.EncodedLength.Statement (.braRell rell) := ⟨rfl, rfl⟩
theorem Sys2Proof.Laws.EncodedLength.staSr (ds : Sys2Proof.Byte) :
    Sys2Proof.Laws.EncodedLength.Statement (.staSr ds) := ⟨rfl, rfl⟩
theorem Sys2Proof.Laws.EncodedLength.styZp (zp : Sys2Proof.Byte) :
    Sys2Proof.Laws.EncodedLength.Statement (.styZp zp) := ⟨rfl, rfl⟩
theorem Sys2Proof.Laws.EncodedLength.staZp (zp : Sys2Proof.Byte) :
    Sys2Proof.Laws.EncodedLength.Statement (.staZp zp) := ⟨rfl, rfl⟩
theorem Sys2Proof.Laws.EncodedLength.stxZp (zp : Sys2Proof.Byte) :
    Sys2Proof.Laws.EncodedLength.Statement (.stxZp zp) := ⟨rfl, rfl⟩
theorem Sys2Proof.Laws.EncodedLength.staZpIndLong (zp : Sys2Proof.Byte) :
    Sys2Proof.Laws.EncodedLength.Statement (.staZpIndLong zp) := ⟨rfl, rfl⟩
theorem Sys2Proof.Laws.EncodedLength.dey :
    Sys2Proof.Laws.EncodedLength.Statement .dey := ⟨rfl, rfl⟩
theorem Sys2Proof.Laws.EncodedLength.bitImm (v : Sys2Proof.Imm) :
    Sys2Proof.Laws.EncodedLength.Statement (.bitImm v) := by cases v <;> exact ⟨rfl, rfl⟩
theorem Sys2Proof.Laws.EncodedLength.txa :
    Sys2Proof.Laws.EncodedLength.Statement .txa := ⟨rfl, rfl⟩
theorem Sys2Proof.Laws.EncodedLength.phb :
    Sys2Proof.Laws.EncodedLength.Statement .phb := ⟨rfl, rfl⟩
theorem Sys2Proof.Laws.EncodedLength.styAbs (abs : Sys2Proof.Word) :
    Sys2Proof.Laws.EncodedLength.Statement (.styAbs abs) := ⟨rfl, rfl⟩
theorem Sys2Proof.Laws.EncodedLength.staAbs (abs : Sys2Proof.Word) :
    Sys2Proof.Laws.EncodedLength.Statement (.staAbs abs) := ⟨rfl, rfl⟩
theorem Sys2Proof.Laws.EncodedLength.stxAbs (abs : Sys2Proof.Word) :
    Sys2Proof.Laws.EncodedLength.Statement (.stxAbs abs) := ⟨rfl, rfl⟩
theorem Sys2Proof.Laws.EncodedLength.staLong (long : Sys2Proof.Addr) :
    Sys2Proof.Laws.EncodedLength.Statement (.staLong long) := ⟨rfl, rfl⟩
theorem Sys2Proof.Laws.EncodedLength.bcc (rel : Sys2Proof.Byte) :
    Sys2Proof.Laws.EncodedLength.Statement (.bcc rel) := ⟨rfl, rfl⟩
theorem Sys2Proof.Laws.EncodedLength.staZpIndY (zp : Sys2Proof.Byte) :
    Sys2Proof.Laws.EncodedLength.Statement (.staZpIndY zp) := ⟨rfl, rfl⟩
theorem Sys2Proof.Laws.EncodedLength.staZpInd (zp : Sys2Proof.Byte) :
    Sys2Proof.Laws.EncodedLength.Statement (.staZpInd zp) := ⟨rfl, rfl⟩
theorem Sys2Proof.Laws.EncodedLength.staSrIndY (ds : Sys2Proof.Byte) :
    Sys2Proof.Laws.EncodedLength.Statement (.staSrIndY ds) := ⟨rfl, rfl⟩
theorem Sys2Proof.Laws.EncodedLength.styZpX (zp : Sys2Proof.Byte) :
    Sys2Proof.Laws.EncodedLength.Statement (.styZpX zp) := ⟨rfl, rfl⟩
theorem Sys2Proof.Laws.EncodedLength.staZpX (zp : Sys2Proof.Byte) :
    Sys2Proof.Laws.EncodedLength.Statement (.staZpX zp) := ⟨rfl, rfl⟩
theorem Sys2Proof.Laws.EncodedLength.stxZpY (zp : Sys2Proof.Byte) :
    Sys2Proof.Laws.EncodedLength.Statement (.stxZpY zp) := ⟨rfl, rfl⟩
theorem Sys2Proof.Laws.EncodedLength.staZpIndLongY (zp : Sys2Proof.Byte) :
    Sys2Proof.Laws.EncodedLength.Statement (.staZpIndLongY zp) := ⟨rfl, rfl⟩
theorem Sys2Proof.Laws.EncodedLength.tya :
    Sys2Proof.Laws.EncodedLength.Statement .tya := ⟨rfl, rfl⟩
theorem Sys2Proof.Laws.EncodedLength.staAbsY (abs : Sys2Proof.Word) :
    Sys2Proof.Laws.EncodedLength.Statement (.staAbsY abs) := ⟨rfl, rfl⟩
theorem Sys2Proof.Laws.EncodedLength.txs :
    Sys2Proof.Laws.EncodedLength.Statement .txs := ⟨rfl, rfl⟩
theorem Sys2Proof.Laws.EncodedLength.txy :
    Sys2Proof.Laws.EncodedLength.Statement .txy := ⟨rfl, rfl⟩
theorem Sys2Proof.Laws.EncodedLength.stzAbs (abs : Sys2Proof.Word) :
    Sys2Proof.Laws.EncodedLength.Statement (.stzAbs abs) := ⟨rfl, rfl⟩
theorem Sys2Proof.Laws.EncodedLength.staAbsX (abs : Sys2Proof.Word) :
    Sys2Proof.Laws.EncodedLength.Statement (.staAbsX abs) := ⟨rfl, rfl⟩
theorem Sys2Proof.Laws.EncodedLength.stzAbsX (abs : Sys2Proof.Word) :
    Sys2Proof.Laws.EncodedLength.Statement (.stzAbsX abs) := ⟨rfl, rfl⟩
theorem Sys2Proof.Laws.EncodedLength.staLongX (long : Sys2Proof.Addr) :
    Sys2Proof.Laws.EncodedLength.Statement (.staLongX long) := ⟨rfl, rfl⟩
theorem Sys2Proof.Laws.EncodedLength.ldyImm (v : Sys2Proof.Imm) :
    Sys2Proof.Laws.EncodedLength.Statement (.ldyImm v) := by cases v <;> exact ⟨rfl, rfl⟩
theorem Sys2Proof.Laws.EncodedLength.ldaZpXInd (zp : Sys2Proof.Byte) :
    Sys2Proof.Laws.EncodedLength.Statement (.ldaZpXInd zp) := ⟨rfl, rfl⟩
theorem Sys2Proof.Laws.EncodedLength.ldxImm (v : Sys2Proof.Imm) :
    Sys2Proof.Laws.EncodedLength.Statement (.ldxImm v) := by cases v <;> exact ⟨rfl, rfl⟩
theorem Sys2Proof.Laws.EncodedLength.ldaSr (ds : Sys2Proof.Byte) :
    Sys2Proof.Laws.EncodedLength.Statement (.ldaSr ds) := ⟨rfl, rfl⟩
theorem Sys2Proof.Laws.EncodedLength.ldyZp (zp : Sys2Proof.Byte) :
    Sys2Proof.Laws.EncodedLength.Statement (.ldyZp zp) := ⟨rfl, rfl⟩
theorem Sys2Proof.Laws.EncodedLength.ldaZp (zp : Sys2Proof.Byte) :
    Sys2Proof.Laws.EncodedLength.Statement (.ldaZp zp) := ⟨rfl, rfl⟩
theorem Sys2Proof.Laws.EncodedLength.ldxZp (zp : Sys2Proof.Byte) :
    Sys2Proof.Laws.EncodedLength.Statement (.ldxZp zp) := ⟨rfl, rfl⟩
theorem Sys2Proof.Laws.EncodedLength.ldaZpIndLong (zp : Sys2Proof.Byte) :
    Sys2Proof.Laws.EncodedLength.Statement (.ldaZpIndLong zp) := ⟨rfl, rfl⟩
theorem Sys2Proof.Laws.EncodedLength.tay :
    Sys2Proof.Laws.EncodedLength.Statement .tay := ⟨rfl, rfl⟩
theorem Sys2Proof.Laws.EncodedLength.ldaImm (v : Sys2Proof.Imm) :
    Sys2Proof.Laws.EncodedLength.Statement (.ldaImm v) := by cases v <;> exact ⟨rfl, rfl⟩
theorem Sys2Proof.Laws.EncodedLength.tax :
    Sys2Proof.Laws.EncodedLength.Statement .tax := ⟨rfl, rfl⟩
theorem Sys2Proof.Laws.EncodedLength.plb :
    Sys2Proof.Laws.EncodedLength.Statement .plb := ⟨rfl, rfl⟩
theorem Sys2Proof.Laws.EncodedLength.ldyAbs (abs : Sys2Proof.Word) :
    Sys2Proof.Laws.EncodedLength.Statement (.ldyAbs abs) := ⟨rfl, rfl⟩
theorem Sys2Proof.Laws.EncodedLength.ldaAbs (abs : Sys2Proof.Word) :
    Sys2Proof.Laws.EncodedLength.Statement (.ldaAbs abs) := ⟨rfl, rfl⟩
theorem Sys2Proof.Laws.EncodedLength.ldxAbs (abs : Sys2Proof.Word) :
    Sys2Proof.Laws.EncodedLength.Statement (.ldxAbs abs) := ⟨rfl, rfl⟩
theorem Sys2Proof.Laws.EncodedLength.ldaLong (long : Sys2Proof.Addr) :
    Sys2Proof.Laws.EncodedLength.Statement (.ldaLong long) := ⟨rfl, rfl⟩
theorem Sys2Proof.Laws.EncodedLength.bcs (rel : Sys2Proof.Byte) :
    Sys2Proof.Laws.EncodedLength.Statement (.bcs rel) := ⟨rfl, rfl⟩
theorem Sys2Proof.Laws.EncodedLength.ldaZpIndY (zp : Sys2Proof.Byte) :
    Sys2Proof.Laws.EncodedLength.Statement (.ldaZpIndY zp) := ⟨rfl, rfl⟩
theorem Sys2Proof.Laws.EncodedLength.ldaZpInd (zp : Sys2Proof.Byte) :
    Sys2Proof.Laws.EncodedLength.Statement (.ldaZpInd zp) := ⟨rfl, rfl⟩
theorem Sys2Proof.Laws.EncodedLength.ldaSrIndY (ds : Sys2Proof.Byte) :
    Sys2Proof.Laws.EncodedLength.Statement (.ldaSrIndY ds) := ⟨rfl, rfl⟩
theorem Sys2Proof.Laws.EncodedLength.ldyZpX (zp : Sys2Proof.Byte) :
    Sys2Proof.Laws.EncodedLength.Statement (.ldyZpX zp) := ⟨rfl, rfl⟩
theorem Sys2Proof.Laws.EncodedLength.ldaZpX (zp : Sys2Proof.Byte) :
    Sys2Proof.Laws.EncodedLength.Statement (.ldaZpX zp) := ⟨rfl, rfl⟩
theorem Sys2Proof.Laws.EncodedLength.ldxZpY (zp : Sys2Proof.Byte) :
    Sys2Proof.Laws.EncodedLength.Statement (.ldxZpY zp) := ⟨rfl, rfl⟩
theorem Sys2Proof.Laws.EncodedLength.ldaZpIndLongY (zp : Sys2Proof.Byte) :
    Sys2Proof.Laws.EncodedLength.Statement (.ldaZpIndLongY zp) := ⟨rfl, rfl⟩
theorem Sys2Proof.Laws.EncodedLength.clv :
    Sys2Proof.Laws.EncodedLength.Statement .clv := ⟨rfl, rfl⟩
theorem Sys2Proof.Laws.EncodedLength.ldaAbsY (abs : Sys2Proof.Word) :
    Sys2Proof.Laws.EncodedLength.Statement (.ldaAbsY abs) := ⟨rfl, rfl⟩
theorem Sys2Proof.Laws.EncodedLength.tsx :
    Sys2Proof.Laws.EncodedLength.Statement .tsx := ⟨rfl, rfl⟩
theorem Sys2Proof.Laws.EncodedLength.tyx :
    Sys2Proof.Laws.EncodedLength.Statement .tyx := ⟨rfl, rfl⟩
theorem Sys2Proof.Laws.EncodedLength.ldyAbsX (abs : Sys2Proof.Word) :
    Sys2Proof.Laws.EncodedLength.Statement (.ldyAbsX abs) := ⟨rfl, rfl⟩
theorem Sys2Proof.Laws.EncodedLength.ldaAbsX (abs : Sys2Proof.Word) :
    Sys2Proof.Laws.EncodedLength.Statement (.ldaAbsX abs) := ⟨rfl, rfl⟩
theorem Sys2Proof.Laws.EncodedLength.ldxAbsY (abs : Sys2Proof.Word) :
    Sys2Proof.Laws.EncodedLength.Statement (.ldxAbsY abs) := ⟨rfl, rfl⟩
theorem Sys2Proof.Laws.EncodedLength.ldaLongX (long : Sys2Proof.Addr) :
    Sys2Proof.Laws.EncodedLength.Statement (.ldaLongX long) := ⟨rfl, rfl⟩
theorem Sys2Proof.Laws.EncodedLength.cpyImm (v : Sys2Proof.Imm) :
    Sys2Proof.Laws.EncodedLength.Statement (.cpyImm v) := by cases v <;> exact ⟨rfl, rfl⟩
theorem Sys2Proof.Laws.EncodedLength.cmpZpXInd (zp : Sys2Proof.Byte) :
    Sys2Proof.Laws.EncodedLength.Statement (.cmpZpXInd zp) := ⟨rfl, rfl⟩
theorem Sys2Proof.Laws.EncodedLength.rep (imm8 : Sys2Proof.Byte) :
    Sys2Proof.Laws.EncodedLength.Statement (.rep imm8) := ⟨rfl, rfl⟩
theorem Sys2Proof.Laws.EncodedLength.cmpSr (ds : Sys2Proof.Byte) :
    Sys2Proof.Laws.EncodedLength.Statement (.cmpSr ds) := ⟨rfl, rfl⟩
theorem Sys2Proof.Laws.EncodedLength.cpyZp (zp : Sys2Proof.Byte) :
    Sys2Proof.Laws.EncodedLength.Statement (.cpyZp zp) := ⟨rfl, rfl⟩
theorem Sys2Proof.Laws.EncodedLength.cmpZp (zp : Sys2Proof.Byte) :
    Sys2Proof.Laws.EncodedLength.Statement (.cmpZp zp) := ⟨rfl, rfl⟩
theorem Sys2Proof.Laws.EncodedLength.decZp (zp : Sys2Proof.Byte) :
    Sys2Proof.Laws.EncodedLength.Statement (.decZp zp) := ⟨rfl, rfl⟩
theorem Sys2Proof.Laws.EncodedLength.cmpZpIndLong (zp : Sys2Proof.Byte) :
    Sys2Proof.Laws.EncodedLength.Statement (.cmpZpIndLong zp) := ⟨rfl, rfl⟩
theorem Sys2Proof.Laws.EncodedLength.iny :
    Sys2Proof.Laws.EncodedLength.Statement .iny := ⟨rfl, rfl⟩
theorem Sys2Proof.Laws.EncodedLength.cmpImm (v : Sys2Proof.Imm) :
    Sys2Proof.Laws.EncodedLength.Statement (.cmpImm v) := by cases v <;> exact ⟨rfl, rfl⟩
theorem Sys2Proof.Laws.EncodedLength.dex :
    Sys2Proof.Laws.EncodedLength.Statement .dex := ⟨rfl, rfl⟩
theorem Sys2Proof.Laws.EncodedLength.wai :
    Sys2Proof.Laws.EncodedLength.Statement .wai := ⟨rfl, rfl⟩
theorem Sys2Proof.Laws.EncodedLength.cpyAbs (abs : Sys2Proof.Word) :
    Sys2Proof.Laws.EncodedLength.Statement (.cpyAbs abs) := ⟨rfl, rfl⟩
theorem Sys2Proof.Laws.EncodedLength.cmpAbs (abs : Sys2Proof.Word) :
    Sys2Proof.Laws.EncodedLength.Statement (.cmpAbs abs) := ⟨rfl, rfl⟩
theorem Sys2Proof.Laws.EncodedLength.decAbs (abs : Sys2Proof.Word) :
    Sys2Proof.Laws.EncodedLength.Statement (.decAbs abs) := ⟨rfl, rfl⟩
theorem Sys2Proof.Laws.EncodedLength.cmpLong (long : Sys2Proof.Addr) :
    Sys2Proof.Laws.EncodedLength.Statement (.cmpLong long) := ⟨rfl, rfl⟩
theorem Sys2Proof.Laws.EncodedLength.bne (rel : Sys2Proof.Byte) :
    Sys2Proof.Laws.EncodedLength.Statement (.bne rel) := ⟨rfl, rfl⟩
theorem Sys2Proof.Laws.EncodedLength.cmpZpIndY (zp : Sys2Proof.Byte) :
    Sys2Proof.Laws.EncodedLength.Statement (.cmpZpIndY zp) := ⟨rfl, rfl⟩
theorem Sys2Proof.Laws.EncodedLength.cmpZpInd (zp : Sys2Proof.Byte) :
    Sys2Proof.Laws.EncodedLength.Statement (.cmpZpInd zp) := ⟨rfl, rfl⟩
theorem Sys2Proof.Laws.EncodedLength.cmpSrIndY (ds : Sys2Proof.Byte) :
    Sys2Proof.Laws.EncodedLength.Statement (.cmpSrIndY ds) := ⟨rfl, rfl⟩
theorem Sys2Proof.Laws.EncodedLength.peaZpInd (zp : Sys2Proof.Byte) :
    Sys2Proof.Laws.EncodedLength.Statement (.peaZpInd zp) := ⟨rfl, rfl⟩
theorem Sys2Proof.Laws.EncodedLength.cmpZpX (zp : Sys2Proof.Byte) :
    Sys2Proof.Laws.EncodedLength.Statement (.cmpZpX zp) := ⟨rfl, rfl⟩
theorem Sys2Proof.Laws.EncodedLength.decZpX (zp : Sys2Proof.Byte) :
    Sys2Proof.Laws.EncodedLength.Statement (.decZpX zp) := ⟨rfl, rfl⟩
theorem Sys2Proof.Laws.EncodedLength.cmpZpIndLongY (zp : Sys2Proof.Byte) :
    Sys2Proof.Laws.EncodedLength.Statement (.cmpZpIndLongY zp) := ⟨rfl, rfl⟩
theorem Sys2Proof.Laws.EncodedLength.cld :
    Sys2Proof.Laws.EncodedLength.Statement .cld := ⟨rfl, rfl⟩
theorem Sys2Proof.Laws.EncodedLength.cmpAbsY (abs : Sys2Proof.Word) :
    Sys2Proof.Laws.EncodedLength.Statement (.cmpAbsY abs) := ⟨rfl, rfl⟩
theorem Sys2Proof.Laws.EncodedLength.phx :
    Sys2Proof.Laws.EncodedLength.Statement .phx := ⟨rfl, rfl⟩
theorem Sys2Proof.Laws.EncodedLength.stp :
    Sys2Proof.Laws.EncodedLength.Statement .stp := ⟨rfl, rfl⟩
theorem Sys2Proof.Laws.EncodedLength.jmpAbsIndLong (abs : Sys2Proof.Word) :
    Sys2Proof.Laws.EncodedLength.Statement (.jmpAbsIndLong abs) := ⟨rfl, rfl⟩
theorem Sys2Proof.Laws.EncodedLength.cmpAbsX (abs : Sys2Proof.Word) :
    Sys2Proof.Laws.EncodedLength.Statement (.cmpAbsX abs) := ⟨rfl, rfl⟩
theorem Sys2Proof.Laws.EncodedLength.decAbsX (abs : Sys2Proof.Word) :
    Sys2Proof.Laws.EncodedLength.Statement (.decAbsX abs) := ⟨rfl, rfl⟩
theorem Sys2Proof.Laws.EncodedLength.cmpLongX (long : Sys2Proof.Addr) :
    Sys2Proof.Laws.EncodedLength.Statement (.cmpLongX long) := ⟨rfl, rfl⟩
theorem Sys2Proof.Laws.EncodedLength.cpxImm (v : Sys2Proof.Imm) :
    Sys2Proof.Laws.EncodedLength.Statement (.cpxImm v) := by cases v <;> exact ⟨rfl, rfl⟩
theorem Sys2Proof.Laws.EncodedLength.sbcZpXInd (zp : Sys2Proof.Byte) :
    Sys2Proof.Laws.EncodedLength.Statement (.sbcZpXInd zp) := ⟨rfl, rfl⟩
theorem Sys2Proof.Laws.EncodedLength.sep (imm8 : Sys2Proof.Byte) :
    Sys2Proof.Laws.EncodedLength.Statement (.sep imm8) := ⟨rfl, rfl⟩
theorem Sys2Proof.Laws.EncodedLength.sbcSr (ds : Sys2Proof.Byte) :
    Sys2Proof.Laws.EncodedLength.Statement (.sbcSr ds) := ⟨rfl, rfl⟩
theorem Sys2Proof.Laws.EncodedLength.cpxZp (zp : Sys2Proof.Byte) :
    Sys2Proof.Laws.EncodedLength.Statement (.cpxZp zp) := ⟨rfl, rfl⟩
theorem Sys2Proof.Laws.EncodedLength.sbcZp (zp : Sys2Proof.Byte) :
    Sys2Proof.Laws.EncodedLength.Statement (.sbcZp zp) := ⟨rfl, rfl⟩
theorem Sys2Proof.Laws.EncodedLength.incZp (zp : Sys2Proof.Byte) :
    Sys2Proof.Laws.EncodedLength.Statement (.incZp zp) := ⟨rfl, rfl⟩
theorem Sys2Proof.Laws.EncodedLength.sbcZpIndLong (zp : Sys2Proof.Byte) :
    Sys2Proof.Laws.EncodedLength.Statement (.sbcZpIndLong zp) := ⟨rfl, rfl⟩
theorem Sys2Proof.Laws.EncodedLength.inx :
    Sys2Proof.Laws.EncodedLength.Statement .inx := ⟨rfl, rfl⟩
theorem Sys2Proof.Laws.EncodedLength.sbcImm (v : Sys2Proof.Imm) :
    Sys2Proof.Laws.EncodedLength.Statement (.sbcImm v) := by cases v <;> exact ⟨rfl, rfl⟩
theorem Sys2Proof.Laws.EncodedLength.nop :
    Sys2Proof.Laws.EncodedLength.Statement .nop := ⟨rfl, rfl⟩
theorem Sys2Proof.Laws.EncodedLength.xba :
    Sys2Proof.Laws.EncodedLength.Statement .xba := ⟨rfl, rfl⟩
theorem Sys2Proof.Laws.EncodedLength.cpxAbs (abs : Sys2Proof.Word) :
    Sys2Proof.Laws.EncodedLength.Statement (.cpxAbs abs) := ⟨rfl, rfl⟩
theorem Sys2Proof.Laws.EncodedLength.sbcAbs (abs : Sys2Proof.Word) :
    Sys2Proof.Laws.EncodedLength.Statement (.sbcAbs abs) := ⟨rfl, rfl⟩
theorem Sys2Proof.Laws.EncodedLength.incAbs (abs : Sys2Proof.Word) :
    Sys2Proof.Laws.EncodedLength.Statement (.incAbs abs) := ⟨rfl, rfl⟩
theorem Sys2Proof.Laws.EncodedLength.sbcLong (long : Sys2Proof.Addr) :
    Sys2Proof.Laws.EncodedLength.Statement (.sbcLong long) := ⟨rfl, rfl⟩
theorem Sys2Proof.Laws.EncodedLength.beq (rel : Sys2Proof.Byte) :
    Sys2Proof.Laws.EncodedLength.Statement (.beq rel) := ⟨rfl, rfl⟩
theorem Sys2Proof.Laws.EncodedLength.sbcZpIndY (zp : Sys2Proof.Byte) :
    Sys2Proof.Laws.EncodedLength.Statement (.sbcZpIndY zp) := ⟨rfl, rfl⟩
theorem Sys2Proof.Laws.EncodedLength.sbcZpInd (zp : Sys2Proof.Byte) :
    Sys2Proof.Laws.EncodedLength.Statement (.sbcZpInd zp) := ⟨rfl, rfl⟩
theorem Sys2Proof.Laws.EncodedLength.sbcSrIndY (ds : Sys2Proof.Byte) :
    Sys2Proof.Laws.EncodedLength.Statement (.sbcSrIndY ds) := ⟨rfl, rfl⟩
theorem Sys2Proof.Laws.EncodedLength.peaImm (imm16 : Sys2Proof.Word) :
    Sys2Proof.Laws.EncodedLength.Statement (.peaImm imm16) := ⟨rfl, rfl⟩
theorem Sys2Proof.Laws.EncodedLength.sbcZpX (zp : Sys2Proof.Byte) :
    Sys2Proof.Laws.EncodedLength.Statement (.sbcZpX zp) := ⟨rfl, rfl⟩
theorem Sys2Proof.Laws.EncodedLength.incZpX (zp : Sys2Proof.Byte) :
    Sys2Proof.Laws.EncodedLength.Statement (.incZpX zp) := ⟨rfl, rfl⟩
theorem Sys2Proof.Laws.EncodedLength.sbcZpIndLongY (zp : Sys2Proof.Byte) :
    Sys2Proof.Laws.EncodedLength.Statement (.sbcZpIndLongY zp) := ⟨rfl, rfl⟩
theorem Sys2Proof.Laws.EncodedLength.sed :
    Sys2Proof.Laws.EncodedLength.Statement .sed := ⟨rfl, rfl⟩
theorem Sys2Proof.Laws.EncodedLength.sbcAbsY (abs : Sys2Proof.Word) :
    Sys2Proof.Laws.EncodedLength.Statement (.sbcAbsY abs) := ⟨rfl, rfl⟩
theorem Sys2Proof.Laws.EncodedLength.plx :
    Sys2Proof.Laws.EncodedLength.Statement .plx := ⟨rfl, rfl⟩
theorem Sys2Proof.Laws.EncodedLength.xce :
    Sys2Proof.Laws.EncodedLength.Statement .xce := ⟨rfl, rfl⟩
theorem Sys2Proof.Laws.EncodedLength.jsrAbsXInd (abs : Sys2Proof.Word) :
    Sys2Proof.Laws.EncodedLength.Statement (.jsrAbsXInd abs) := ⟨rfl, rfl⟩
theorem Sys2Proof.Laws.EncodedLength.sbcAbsX (abs : Sys2Proof.Word) :
    Sys2Proof.Laws.EncodedLength.Statement (.sbcAbsX abs) := ⟨rfl, rfl⟩
theorem Sys2Proof.Laws.EncodedLength.incAbsX (abs : Sys2Proof.Word) :
    Sys2Proof.Laws.EncodedLength.Statement (.incAbsX abs) := ⟨rfl, rfl⟩
theorem Sys2Proof.Laws.EncodedLength.sbcLongX (long : Sys2Proof.Addr) :
    Sys2Proof.Laws.EncodedLength.Statement (.sbcLongX long) := ⟨rfl, rfl⟩
end

