-- ==== Sys2Proof/Machine/Signals.lean ====
section
/-! DEFINITION. What the platform can do to the processor between steps (10_state.md R37; 60_exceptions.md R355, R356,
R362; 70_reset_and_hazards.md R400): it signals NMI and drives three levels. No step calls these; they say how the
input fields of `State` change. -/

namespace Sys2Proof.Machine

/-- The NMI signal: latched, and merged with one that is pending (60_exceptions.md R356). -/
def State.signalNmi (s : State) : State := { s with nmiPending := true }

/-- The IRQ level (60_exceptions.md R355). -/
def State.driveIrq (b : Bool) (s : State) : State := { s with irqLine := b }

/-- The ABORT level (60_exceptions.md R362). -/
def State.driveAbort (b : Bool) (s : State) : State := { s with abortLine := b }

/-- The RESET level (70_reset_and_hazards.md R400). -/
def State.driveReset (b : Bool) (s : State) : State := { s with resetLine := b }

end Sys2Proof.Machine
end

