-- ==== Sys2Proof/Tests/Slice0.lean ====
section
/-! SUPPORT. The model's own tests: ill-formed instructions refused, the decoding of every row from bytes written out
from the spec's formats, the spec's test vectors (95_test_vectors.md), and for each statement with hypotheses a
concrete state and operands that meet them. -/

open Sys2Proof Sys2Proof.Machine

/-! ### Well-formedness (30_encoding.md R97): an immediate of the other width is refused -/

theorem test_wellFormed_refuses_8bit_lda_immediate_at_16_bits :
    Instr.WellFormed false true (.ldaImm (.b8 0x12)) = false := by decide
theorem test_wellFormed_refuses_16bit_lda_immediate_at_8_bits :
    Instr.WellFormed true false (.ldaImm (.b16 0x1234)) = false := by decide
theorem test_wellFormed_refuses_8bit_ldx_immediate_at_16_bits :
    Instr.WellFormed true false (.ldxImm (.b8 0x12)) = false := by decide
theorem test_wellFormed_refuses_16bit_cpy_immediate_at_8_bits :
    Instr.WellFormed false true (.cpyImm (.b16 0x1234)) = false := by decide
theorem test_wellFormed_accepts_matching_immediates :
    Instr.WellFormed true false (.ldaImm (.b8 0x12)) = true ∧ Instr.WellFormed true false (.ldxImm (.b16 0x1234)) = true := by
  decide

/-! ### Decoding (30_encoding.md R91, R95): one row of sixteen opcodes each, at 8-bit widths -/

theorem test_decode_row_0 :
    decode true true [0x00, 0x12] = .ok (.brk 0x12) ∧
    decode true true [0x01, 0x12] = .ok (.oraZpXInd 0x12) ∧
    decode true true [0x02, 0x12] = .ok (.cop 0x12) ∧
    decode true true [0x03, 0x12] = .ok (.oraSr 0x12) ∧
    decode true true [0x04, 0x12] = .ok (.tsbZp 0x12) ∧
    decode true true [0x05, 0x12] = .ok (.oraZp 0x12) ∧
    decode true true [0x06, 0x12] = .ok (.aslZp 0x12) ∧
    decode true true [0x07, 0x12] = .ok (.oraZpIndLong 0x12) ∧
    decode true true [0x08] = .ok .php ∧
    decode true true [0x09, 0x12] = .ok (.oraImm (.b8 0x12)) ∧
    decode true true [0x0A] = .ok .aslAcc ∧
    decode true true [0x0B] = .ok .phd ∧
    decode true true [0x0C, 0x12, 0x34] = .ok (.tsbAbs 0x3412) ∧
    decode true true [0x0D, 0x12, 0x34] = .ok (.oraAbs 0x3412) ∧
    decode true true [0x0E, 0x12, 0x34] = .ok (.aslAbs 0x3412) ∧
    decode true true [0x0F, 0x12, 0x34, 0x56] = .ok (.oraLong 0x563412) :=
  ⟨rfl, rfl, rfl, rfl, rfl, rfl, rfl, rfl, rfl, rfl, rfl, rfl, rfl, rfl, rfl, rfl⟩

theorem test_decode_row_1 :
    decode true true [0x10, 0x12] = .ok (.bpl 0x12) ∧
    decode true true [0x11, 0x12] = .ok (.oraZpIndY 0x12) ∧
    decode true true [0x12, 0x12] = .ok (.oraZpInd 0x12) ∧
    decode true true [0x13, 0x12] = .ok (.oraSrIndY 0x12) ∧
    decode true true [0x14, 0x12] = .ok (.trbZp 0x12) ∧
    decode true true [0x15, 0x12] = .ok (.oraZpX 0x12) ∧
    decode true true [0x16, 0x12] = .ok (.aslZpX 0x12) ∧
    decode true true [0x17, 0x12] = .ok (.oraZpIndLongY 0x12) ∧
    decode true true [0x18] = .ok .clc ∧
    decode true true [0x19, 0x12, 0x34] = .ok (.oraAbsY 0x3412) ∧
    decode true true [0x1A] = .ok .incAcc ∧
    decode true true [0x1B] = .ok .tcs ∧
    decode true true [0x1C, 0x12, 0x34] = .ok (.trbAbs 0x3412) ∧
    decode true true [0x1D, 0x12, 0x34] = .ok (.oraAbsX 0x3412) ∧
    decode true true [0x1E, 0x12, 0x34] = .ok (.aslAbsX 0x3412) ∧
    decode true true [0x1F, 0x12, 0x34, 0x56] = .ok (.oraLongX 0x563412) :=
  ⟨rfl, rfl, rfl, rfl, rfl, rfl, rfl, rfl, rfl, rfl, rfl, rfl, rfl, rfl, rfl, rfl⟩

theorem test_decode_row_2 :
    decode true true [0x20, 0x12, 0x34] = .ok (.jsrAbs 0x3412) ∧
    decode true true [0x21, 0x12] = .ok (.andZpXInd 0x12) ∧
    decode true true [0x22, 0x12, 0x34, 0x56] = .ok (.jsrLong 0x563412) ∧
    decode true true [0x23, 0x12] = .ok (.andSr 0x12) ∧
    decode true true [0x24, 0x12] = .ok (.bitZp 0x12) ∧
    decode true true [0x25, 0x12] = .ok (.andZp 0x12) ∧
    decode true true [0x26, 0x12] = .ok (.rolZp 0x12) ∧
    decode true true [0x27, 0x12] = .ok (.andZpIndLong 0x12) ∧
    decode true true [0x28] = .ok .plp ∧
    decode true true [0x29, 0x12] = .ok (.andImm (.b8 0x12)) ∧
    decode true true [0x2A] = .ok .rolAcc ∧
    decode true true [0x2B] = .ok .pld ∧
    decode true true [0x2C, 0x12, 0x34] = .ok (.bitAbs 0x3412) ∧
    decode true true [0x2D, 0x12, 0x34] = .ok (.andAbs 0x3412) ∧
    decode true true [0x2E, 0x12, 0x34] = .ok (.rolAbs 0x3412) ∧
    decode true true [0x2F, 0x12, 0x34, 0x56] = .ok (.andLong 0x563412) :=
  ⟨rfl, rfl, rfl, rfl, rfl, rfl, rfl, rfl, rfl, rfl, rfl, rfl, rfl, rfl, rfl, rfl⟩

theorem test_decode_row_3 :
    decode true true [0x30, 0x12] = .ok (.bmi 0x12) ∧
    decode true true [0x31, 0x12] = .ok (.andZpIndY 0x12) ∧
    decode true true [0x32, 0x12] = .ok (.andZpInd 0x12) ∧
    decode true true [0x33, 0x12] = .ok (.andSrIndY 0x12) ∧
    decode true true [0x34, 0x12] = .ok (.bitZpX 0x12) ∧
    decode true true [0x35, 0x12] = .ok (.andZpX 0x12) ∧
    decode true true [0x36, 0x12] = .ok (.rolZpX 0x12) ∧
    decode true true [0x37, 0x12] = .ok (.andZpIndLongY 0x12) ∧
    decode true true [0x38] = .ok .sec ∧
    decode true true [0x39, 0x12, 0x34] = .ok (.andAbsY 0x3412) ∧
    decode true true [0x3A] = .ok .decAcc ∧
    decode true true [0x3B] = .ok .tsc ∧
    decode true true [0x3C, 0x12, 0x34] = .ok (.bitAbsX 0x3412) ∧
    decode true true [0x3D, 0x12, 0x34] = .ok (.andAbsX 0x3412) ∧
    decode true true [0x3E, 0x12, 0x34] = .ok (.rolAbsX 0x3412) ∧
    decode true true [0x3F, 0x12, 0x34, 0x56] = .ok (.andLongX 0x563412) :=
  ⟨rfl, rfl, rfl, rfl, rfl, rfl, rfl, rfl, rfl, rfl, rfl, rfl, rfl, rfl, rfl, rfl⟩

theorem test_decode_row_4 :
    decode true true [0x40] = .ok .rti ∧
    decode true true [0x41, 0x12] = .ok (.eorZpXInd 0x12) ∧
    decode true true [0x42] = .ok .wdm ∧
    decode true true [0x43, 0x12] = .ok (.eorSr 0x12) ∧
    decode true true [0x44, 0x12, 0x34] = .ok (.mvp 0x12 0x34) ∧
    decode true true [0x45, 0x12] = .ok (.eorZp 0x12) ∧
    decode true true [0x46, 0x12] = .ok (.lsrZp 0x12) ∧
    decode true true [0x47, 0x12] = .ok (.eorZpIndLong 0x12) ∧
    decode true true [0x48] = .ok .pha ∧
    decode true true [0x49, 0x12] = .ok (.eorImm (.b8 0x12)) ∧
    decode true true [0x4A] = .ok .lsrAcc ∧
    decode true true [0x4B] = .ok .phk ∧
    decode true true [0x4C, 0x12, 0x34] = .ok (.jmpAbs 0x3412) ∧
    decode true true [0x4D, 0x12, 0x34] = .ok (.eorAbs 0x3412) ∧
    decode true true [0x4E, 0x12, 0x34] = .ok (.lsrAbs 0x3412) ∧
    decode true true [0x4F, 0x12, 0x34, 0x56] = .ok (.eorLong 0x563412) :=
  ⟨rfl, rfl, rfl, rfl, rfl, rfl, rfl, rfl, rfl, rfl, rfl, rfl, rfl, rfl, rfl, rfl⟩

theorem test_decode_row_5 :
    decode true true [0x50, 0x12] = .ok (.bvc 0x12) ∧
    decode true true [0x51, 0x12] = .ok (.eorZpIndY 0x12) ∧
    decode true true [0x52, 0x12] = .ok (.eorZpInd 0x12) ∧
    decode true true [0x53, 0x12] = .ok (.eorSrIndY 0x12) ∧
    decode true true [0x54, 0x12, 0x34] = .ok (.mvn 0x12 0x34) ∧
    decode true true [0x55, 0x12] = .ok (.eorZpX 0x12) ∧
    decode true true [0x56, 0x12] = .ok (.lsrZpX 0x12) ∧
    decode true true [0x57, 0x12] = .ok (.eorZpIndLongY 0x12) ∧
    decode true true [0x58] = .ok .cli ∧
    decode true true [0x59, 0x12, 0x34] = .ok (.eorAbsY 0x3412) ∧
    decode true true [0x5A] = .ok .phy ∧
    decode true true [0x5B] = .ok .tcd ∧
    decode true true [0x5C, 0x12, 0x34, 0x56] = .ok (.jmpLong 0x563412) ∧
    decode true true [0x5D, 0x12, 0x34] = .ok (.eorAbsX 0x3412) ∧
    decode true true [0x5E, 0x12, 0x34] = .ok (.lsrAbsX 0x3412) ∧
    decode true true [0x5F, 0x12, 0x34, 0x56] = .ok (.eorLongX 0x563412) :=
  ⟨rfl, rfl, rfl, rfl, rfl, rfl, rfl, rfl, rfl, rfl, rfl, rfl, rfl, rfl, rfl, rfl⟩

theorem test_decode_row_6 :
    decode true true [0x60] = .ok .rts ∧
    decode true true [0x61, 0x12] = .ok (.adcZpXInd 0x12) ∧
    decode true true [0x62, 0x12, 0x34] = .ok (.peaRell 0x3412) ∧
    decode true true [0x63, 0x12] = .ok (.adcSr 0x12) ∧
    decode true true [0x64, 0x12] = .ok (.stzZp 0x12) ∧
    decode true true [0x65, 0x12] = .ok (.adcZp 0x12) ∧
    decode true true [0x66, 0x12] = .ok (.rorZp 0x12) ∧
    decode true true [0x67, 0x12] = .ok (.adcZpIndLong 0x12) ∧
    decode true true [0x68] = .ok .pla ∧
    decode true true [0x69, 0x12] = .ok (.adcImm (.b8 0x12)) ∧
    decode true true [0x6A] = .ok .rorAcc ∧
    decode true true [0x6B] = .ok .rtl ∧
    decode true true [0x6C, 0x12, 0x34] = .ok (.jmpAbsInd 0x3412) ∧
    decode true true [0x6D, 0x12, 0x34] = .ok (.adcAbs 0x3412) ∧
    decode true true [0x6E, 0x12, 0x34] = .ok (.rorAbs 0x3412) ∧
    decode true true [0x6F, 0x12, 0x34, 0x56] = .ok (.adcLong 0x563412) :=
  ⟨rfl, rfl, rfl, rfl, rfl, rfl, rfl, rfl, rfl, rfl, rfl, rfl, rfl, rfl, rfl, rfl⟩

theorem test_decode_row_7 :
    decode true true [0x70, 0x12] = .ok (.bvs 0x12) ∧
    decode true true [0x71, 0x12] = .ok (.adcZpIndY 0x12) ∧
    decode true true [0x72, 0x12] = .ok (.adcZpInd 0x12) ∧
    decode true true [0x73, 0x12] = .ok (.adcSrIndY 0x12) ∧
    decode true true [0x74, 0x12] = .ok (.stzZpX 0x12) ∧
    decode true true [0x75, 0x12] = .ok (.adcZpX 0x12) ∧
    decode true true [0x76, 0x12] = .ok (.rorZpX 0x12) ∧
    decode true true [0x77, 0x12] = .ok (.adcZpIndLongY 0x12) ∧
    decode true true [0x78] = .ok .sei ∧
    decode true true [0x79, 0x12, 0x34] = .ok (.adcAbsY 0x3412) ∧
    decode true true [0x7A] = .ok .ply ∧
    decode true true [0x7B] = .ok .tdc ∧
    decode true true [0x7C, 0x12, 0x34] = .ok (.jmpAbsXInd 0x3412) ∧
    decode true true [0x7D, 0x12, 0x34] = .ok (.adcAbsX 0x3412) ∧
    decode true true [0x7E, 0x12, 0x34] = .ok (.rorAbsX 0x3412) ∧
    decode true true [0x7F, 0x12, 0x34, 0x56] = .ok (.adcLongX 0x563412) :=
  ⟨rfl, rfl, rfl, rfl, rfl, rfl, rfl, rfl, rfl, rfl, rfl, rfl, rfl, rfl, rfl, rfl⟩

theorem test_decode_row_8 :
    decode true true [0x80, 0x12] = .ok (.braRel 0x12) ∧
    decode true true [0x81, 0x12] = .ok (.staZpXInd 0x12) ∧
    decode true true [0x82, 0x12, 0x34] = .ok (.braRell 0x3412) ∧
    decode true true [0x83, 0x12] = .ok (.staSr 0x12) ∧
    decode true true [0x84, 0x12] = .ok (.styZp 0x12) ∧
    decode true true [0x85, 0x12] = .ok (.staZp 0x12) ∧
    decode true true [0x86, 0x12] = .ok (.stxZp 0x12) ∧
    decode true true [0x87, 0x12] = .ok (.staZpIndLong 0x12) ∧
    decode true true [0x88] = .ok .dey ∧
    decode true true [0x89, 0x12] = .ok (.bitImm (.b8 0x12)) ∧
    decode true true [0x8A] = .ok .txa ∧
    decode true true [0x8B] = .ok .phb ∧
    decode true true [0x8C, 0x12, 0x34] = .ok (.styAbs 0x3412) ∧
    decode true true [0x8D, 0x12, 0x34] = .ok (.staAbs 0x3412) ∧
    decode true true [0x8E, 0x12, 0x34] = .ok (.stxAbs 0x3412) ∧
    decode true true [0x8F, 0x12, 0x34, 0x56] = .ok (.staLong 0x563412) :=
  ⟨rfl, rfl, rfl, rfl, rfl, rfl, rfl, rfl, rfl, rfl, rfl, rfl, rfl, rfl, rfl, rfl⟩

theorem test_decode_row_9 :
    decode true true [0x90, 0x12] = .ok (.bcc 0x12) ∧
    decode true true [0x91, 0x12] = .ok (.staZpIndY 0x12) ∧
    decode true true [0x92, 0x12] = .ok (.staZpInd 0x12) ∧
    decode true true [0x93, 0x12] = .ok (.staSrIndY 0x12) ∧
    decode true true [0x94, 0x12] = .ok (.styZpX 0x12) ∧
    decode true true [0x95, 0x12] = .ok (.staZpX 0x12) ∧
    decode true true [0x96, 0x12] = .ok (.stxZpY 0x12) ∧
    decode true true [0x97, 0x12] = .ok (.staZpIndLongY 0x12) ∧
    decode true true [0x98] = .ok .tya ∧
    decode true true [0x99, 0x12, 0x34] = .ok (.staAbsY 0x3412) ∧
    decode true true [0x9A] = .ok .txs ∧
    decode true true [0x9B] = .ok .txy ∧
    decode true true [0x9C, 0x12, 0x34] = .ok (.stzAbs 0x3412) ∧
    decode true true [0x9D, 0x12, 0x34] = .ok (.staAbsX 0x3412) ∧
    decode true true [0x9E, 0x12, 0x34] = .ok (.stzAbsX 0x3412) ∧
    decode true true [0x9F, 0x12, 0x34, 0x56] = .ok (.staLongX 0x563412) :=
  ⟨rfl, rfl, rfl, rfl, rfl, rfl, rfl, rfl, rfl, rfl, rfl, rfl, rfl, rfl, rfl, rfl⟩

theorem test_decode_row_A :
    decode true true [0xA0, 0x12] = .ok (.ldyImm (.b8 0x12)) ∧
    decode true true [0xA1, 0x12] = .ok (.ldaZpXInd 0x12) ∧
    decode true true [0xA2, 0x12] = .ok (.ldxImm (.b8 0x12)) ∧
    decode true true [0xA3, 0x12] = .ok (.ldaSr 0x12) ∧
    decode true true [0xA4, 0x12] = .ok (.ldyZp 0x12) ∧
    decode true true [0xA5, 0x12] = .ok (.ldaZp 0x12) ∧
    decode true true [0xA6, 0x12] = .ok (.ldxZp 0x12) ∧
    decode true true [0xA7, 0x12] = .ok (.ldaZpIndLong 0x12) ∧
    decode true true [0xA8] = .ok .tay ∧
    decode true true [0xA9, 0x12] = .ok (.ldaImm (.b8 0x12)) ∧
    decode true true [0xAA] = .ok .tax ∧
    decode true true [0xAB] = .ok .plb ∧
    decode true true [0xAC, 0x12, 0x34] = .ok (.ldyAbs 0x3412) ∧
    decode true true [0xAD, 0x12, 0x34] = .ok (.ldaAbs 0x3412) ∧
    decode true true [0xAE, 0x12, 0x34] = .ok (.ldxAbs 0x3412) ∧
    decode true true [0xAF, 0x12, 0x34, 0x56] = .ok (.ldaLong 0x563412) :=
  ⟨rfl, rfl, rfl, rfl, rfl, rfl, rfl, rfl, rfl, rfl, rfl, rfl, rfl, rfl, rfl, rfl⟩

theorem test_decode_row_B :
    decode true true [0xB0, 0x12] = .ok (.bcs 0x12) ∧
    decode true true [0xB1, 0x12] = .ok (.ldaZpIndY 0x12) ∧
    decode true true [0xB2, 0x12] = .ok (.ldaZpInd 0x12) ∧
    decode true true [0xB3, 0x12] = .ok (.ldaSrIndY 0x12) ∧
    decode true true [0xB4, 0x12] = .ok (.ldyZpX 0x12) ∧
    decode true true [0xB5, 0x12] = .ok (.ldaZpX 0x12) ∧
    decode true true [0xB6, 0x12] = .ok (.ldxZpY 0x12) ∧
    decode true true [0xB7, 0x12] = .ok (.ldaZpIndLongY 0x12) ∧
    decode true true [0xB8] = .ok .clv ∧
    decode true true [0xB9, 0x12, 0x34] = .ok (.ldaAbsY 0x3412) ∧
    decode true true [0xBA] = .ok .tsx ∧
    decode true true [0xBB] = .ok .tyx ∧
    decode true true [0xBC, 0x12, 0x34] = .ok (.ldyAbsX 0x3412) ∧
    decode true true [0xBD, 0x12, 0x34] = .ok (.ldaAbsX 0x3412) ∧
    decode true true [0xBE, 0x12, 0x34] = .ok (.ldxAbsY 0x3412) ∧
    decode true true [0xBF, 0x12, 0x34, 0x56] = .ok (.ldaLongX 0x563412) :=
  ⟨rfl, rfl, rfl, rfl, rfl, rfl, rfl, rfl, rfl, rfl, rfl, rfl, rfl, rfl, rfl, rfl⟩

theorem test_decode_row_C :
    decode true true [0xC0, 0x12] = .ok (.cpyImm (.b8 0x12)) ∧
    decode true true [0xC1, 0x12] = .ok (.cmpZpXInd 0x12) ∧
    decode true true [0xC2, 0x12] = .ok (.rep 0x12) ∧
    decode true true [0xC3, 0x12] = .ok (.cmpSr 0x12) ∧
    decode true true [0xC4, 0x12] = .ok (.cpyZp 0x12) ∧
    decode true true [0xC5, 0x12] = .ok (.cmpZp 0x12) ∧
    decode true true [0xC6, 0x12] = .ok (.decZp 0x12) ∧
    decode true true [0xC7, 0x12] = .ok (.cmpZpIndLong 0x12) ∧
    decode true true [0xC8] = .ok .iny ∧
    decode true true [0xC9, 0x12] = .ok (.cmpImm (.b8 0x12)) ∧
    decode true true [0xCA] = .ok .dex ∧
    decode true true [0xCB] = .ok .wai ∧
    decode true true [0xCC, 0x12, 0x34] = .ok (.cpyAbs 0x3412) ∧
    decode true true [0xCD, 0x12, 0x34] = .ok (.cmpAbs 0x3412) ∧
    decode true true [0xCE, 0x12, 0x34] = .ok (.decAbs 0x3412) ∧
    decode true true [0xCF, 0x12, 0x34, 0x56] = .ok (.cmpLong 0x563412) :=
  ⟨rfl, rfl, rfl, rfl, rfl, rfl, rfl, rfl, rfl, rfl, rfl, rfl, rfl, rfl, rfl, rfl⟩

theorem test_decode_row_D :
    decode true true [0xD0, 0x12] = .ok (.bne 0x12) ∧
    decode true true [0xD1, 0x12] = .ok (.cmpZpIndY 0x12) ∧
    decode true true [0xD2, 0x12] = .ok (.cmpZpInd 0x12) ∧
    decode true true [0xD3, 0x12] = .ok (.cmpSrIndY 0x12) ∧
    decode true true [0xD4, 0x12] = .ok (.peaZpInd 0x12) ∧
    decode true true [0xD5, 0x12] = .ok (.cmpZpX 0x12) ∧
    decode true true [0xD6, 0x12] = .ok (.decZpX 0x12) ∧
    decode true true [0xD7, 0x12] = .ok (.cmpZpIndLongY 0x12) ∧
    decode true true [0xD8] = .ok .cld ∧
    decode true true [0xD9, 0x12, 0x34] = .ok (.cmpAbsY 0x3412) ∧
    decode true true [0xDA] = .ok .phx ∧
    decode true true [0xDB] = .ok .stp ∧
    decode true true [0xDC, 0x12, 0x34] = .ok (.jmpAbsIndLong 0x3412) ∧
    decode true true [0xDD, 0x12, 0x34] = .ok (.cmpAbsX 0x3412) ∧
    decode true true [0xDE, 0x12, 0x34] = .ok (.decAbsX 0x3412) ∧
    decode true true [0xDF, 0x12, 0x34, 0x56] = .ok (.cmpLongX 0x563412) :=
  ⟨rfl, rfl, rfl, rfl, rfl, rfl, rfl, rfl, rfl, rfl, rfl, rfl, rfl, rfl, rfl, rfl⟩

theorem test_decode_row_E :
    decode true true [0xE0, 0x12] = .ok (.cpxImm (.b8 0x12)) ∧
    decode true true [0xE1, 0x12] = .ok (.sbcZpXInd 0x12) ∧
    decode true true [0xE2, 0x12] = .ok (.sep 0x12) ∧
    decode true true [0xE3, 0x12] = .ok (.sbcSr 0x12) ∧
    decode true true [0xE4, 0x12] = .ok (.cpxZp 0x12) ∧
    decode true true [0xE5, 0x12] = .ok (.sbcZp 0x12) ∧
    decode true true [0xE6, 0x12] = .ok (.incZp 0x12) ∧
    decode true true [0xE7, 0x12] = .ok (.sbcZpIndLong 0x12) ∧
    decode true true [0xE8] = .ok .inx ∧
    decode true true [0xE9, 0x12] = .ok (.sbcImm (.b8 0x12)) ∧
    decode true true [0xEA] = .ok .nop ∧
    decode true true [0xEB] = .ok .xba ∧
    decode true true [0xEC, 0x12, 0x34] = .ok (.cpxAbs 0x3412) ∧
    decode true true [0xED, 0x12, 0x34] = .ok (.sbcAbs 0x3412) ∧
    decode true true [0xEE, 0x12, 0x34] = .ok (.incAbs 0x3412) ∧
    decode true true [0xEF, 0x12, 0x34, 0x56] = .ok (.sbcLong 0x563412) :=
  ⟨rfl, rfl, rfl, rfl, rfl, rfl, rfl, rfl, rfl, rfl, rfl, rfl, rfl, rfl, rfl, rfl⟩

theorem test_decode_row_F :
    decode true true [0xF0, 0x12] = .ok (.beq 0x12) ∧
    decode true true [0xF1, 0x12] = .ok (.sbcZpIndY 0x12) ∧
    decode true true [0xF2, 0x12] = .ok (.sbcZpInd 0x12) ∧
    decode true true [0xF3, 0x12] = .ok (.sbcSrIndY 0x12) ∧
    decode true true [0xF4, 0x12, 0x34] = .ok (.peaImm 0x3412) ∧
    decode true true [0xF5, 0x12] = .ok (.sbcZpX 0x12) ∧
    decode true true [0xF6, 0x12] = .ok (.incZpX 0x12) ∧
    decode true true [0xF7, 0x12] = .ok (.sbcZpIndLongY 0x12) ∧
    decode true true [0xF8] = .ok .sed ∧
    decode true true [0xF9, 0x12, 0x34] = .ok (.sbcAbsY 0x3412) ∧
    decode true true [0xFA] = .ok .plx ∧
    decode true true [0xFB] = .ok .xce ∧
    decode true true [0xFC, 0x12, 0x34] = .ok (.jsrAbsXInd 0x3412) ∧
    decode true true [0xFD, 0x12, 0x34] = .ok (.sbcAbsX 0x3412) ∧
    decode true true [0xFE, 0x12, 0x34] = .ok (.incAbsX 0x3412) ∧
    decode true true [0xFF, 0x12, 0x34, 0x56] = .ok (.sbcLongX 0x563412) :=
  ⟨rfl, rfl, rfl, rfl, rfl, rfl, rfl, rfl, rfl, rfl, rfl, rfl, rfl, rfl, rfl, rfl⟩

/-- The twelve immediates at 16 bits: little-endian (30_encoding.md R93, R97). -/
theorem test_decode_16bit_immediates :
    decode false false [0x09, 0x12, 0x34] = .ok (.oraImm (.b16 0x3412)) ∧
    decode false false [0x29, 0x12, 0x34] = .ok (.andImm (.b16 0x3412)) ∧
    decode false false [0x49, 0x12, 0x34] = .ok (.eorImm (.b16 0x3412)) ∧
    decode false false [0x69, 0x12, 0x34] = .ok (.adcImm (.b16 0x3412)) ∧
    decode false false [0x89, 0x12, 0x34] = .ok (.bitImm (.b16 0x3412)) ∧
    decode false false [0xA0, 0x12, 0x34] = .ok (.ldyImm (.b16 0x3412)) ∧
    decode false false [0xA2, 0x12, 0x34] = .ok (.ldxImm (.b16 0x3412)) ∧
    decode false false [0xA9, 0x12, 0x34] = .ok (.ldaImm (.b16 0x3412)) ∧
    decode false false [0xC0, 0x12, 0x34] = .ok (.cpyImm (.b16 0x3412)) ∧
    decode false false [0xC9, 0x12, 0x34] = .ok (.cmpImm (.b16 0x3412)) ∧
    decode false false [0xE0, 0x12, 0x34] = .ok (.cpxImm (.b16 0x3412)) ∧
    decode false false [0xE9, 0x12, 0x34] = .ok (.sbcImm (.b16 0x3412)) :=
  ⟨rfl, rfl, rfl, rfl, rfl, rfl, rfl, rfl, rfl, rfl, rfl, rfl⟩

/-- The block move's first byte is the destination bank, its second the source bank (48_block_move.md R320). -/
theorem test_encode_block_move : encode (.mvn 0x7F 0x7E) = [0x54, 0x7F, 0x7E] := by decide
theorem test_encode_long : encode (.jsrLong 0x7E9000) = [0x22, 0x00, 0x90, 0x7E] := by decide
/-- The table's words: bit 0 is the least significant bit of the opcode byte. -/
theorem test_decodeTableWord : decodeTableWord 24 0x9000AD = some (.ldaAbs 0x9000) := by decide
theorem test_decodeTableWord_short : decodeTableWord 8 0x54 = some (.mvn 0x00 0x00) := by decide

/-! ### The spec's vectors (95_test_vectors.md) -/

/-- A state of the vectors' conventions: at `$008000`, everything else zero but what the vector gives. -/
def start (e : Bool) (p : Byte) : State := { State.reset with e := e, p := p, pc := 0x8000 }

/-- Bytes put into memory. -/
def put (l : List (Nat × Byte)) (s : State) : State :=
  { s with mem := l.foldl (fun m c => m.write (BitVec.ofNat 24 c.1) c.2) s.mem }

/-- One step with the bytes at `PBR:PC` ends in a next state that passes the check. -/
def runs (bytes : List Byte) (s : State) (f : State → Bool) : Bool :=
  match step (s.storeAtPc 0 bytes) with
  | .next t => f t
  | _ => false

theorem test_lda_zpX_wraps_in_the_page_in_emulation_V1 :
    runs [0xB5, 0xF0] (put [(0x10, 0x77), (0x110, 0x99), (0x4110, 0x42), (0x100EF, 0xC3)] { start true 0x30 with x := 0x20 })
      (fun t => t.a == 0x77 && t.p == 0x30) = true := by decide

theorem test_stz_zpX_does_not_wrap_V2 :
    runs [0x74, 0xF0] (put [(0x10, 0x77), (0x110, 0x99), (0x4110, 0x42), (0x100EF, 0xC3)] { start true 0x30 with x := 0x20 })
      (fun t => t.mem.read 0x110 == 0 && t.mem.read 0x10 == 0x77) = true := by decide

theorem test_lda_zpX_beyond_bank_0_V5 :
    runs [0xB5, 0xF0] (put [(0x10, 0x77), (0x110, 0x99), (0x4110, 0x42), (0x100EF, 0xC3)] { start false 0x20 with x := 0xFFFF })
      (fun t => t.a == 0xC3 && t.flag .n) = true := by decide

theorem test_lda_imm_16 :
    runs [0xA9, 0x00, 0x00] { start false 0x00 with a := 0x1234 }
      (fun t => t.a == 0 && t.p == 0x02 && t.pc == 0x8003) = true := by decide

theorem test_lda_imm_8_keeps_AH :
    runs [0xA9, 0x80] { start false 0x30 with a := 0x1234 }
      (fun t => t.a == 0x1280 && t.p == 0xB0 && t.pc == 0x8002) = true := by decide

theorem test_lda_abs_crosses_the_bank :
    runs [0xAD, 0xFF, 0xFF] (put [(0x7EFFFF, 0x34), (0x7F0000, 0x12)] { start false 0x00 with dbr := 0x7E })
      (fun t => t.a == 0x1234 && t.pc == 0x8003) = true := by decide

theorem test_lda_absX_carries_into_the_bank :
    runs [0xBD, 0xFF, 0xFF] (put [(0x7F0000, 0x5A)] { start false 0x30 with dbr := 0x7E, x := 1 })
      (fun t => t.a == 0x5A) = true := by decide

theorem test_ldx_zpY_wraps :
    runs [0xB6, 0xF0] (put [(0x10, 0x77), (0x110, 0x99)] { start true 0x30 with y := 0x20 })
      (fun t => t.x == 0x77) = true := by decide

theorem test_ldy_zpX_is_indexed_by_X :
    runs [0xB4, 0xF0] (put [(0x10, 0x77), (0x110, 0x99)] { start true 0x30 with x := 0x20 })
      (fun t => t.y == 0x77) = true := by decide

theorem test_lda_zpIndY :
    runs [0xB1, 0x10] (put [(0x10, 0xF8), (0x11, 0xFF), (0x130008, 0x6B)] { start false 0x30 with dbr := 0x12, y := 0x10 })
      (fun t => t.a == 0x6B) = true := by decide

theorem test_lda_zpIndLong :
    runs [0xA7, 0x10] (put [(0x11, 0x20), (0x12, 0x7E), (0x7E2000, 0xEF), (0x7E2001, 0xBE)] (start false 0x00))
      (fun t => t.a == 0xBEEF && t.flag .n) = true := by decide

theorem test_lda_sr :
    runs [0xA3, 0x02] (put [(0x1FF2, 0x4D)] { start false 0x30 with sp := 0x1FF0 })
      (fun t => t.a == 0x4D) = true := by decide

theorem test_lda_srIndY :
    runs [0xB3, 0x01] (put [(0x1FF2, 0x30), (0x23003, 0x91)] { start false 0x30 with sp := 0x1FF0, dbr := 2, y := 3 })
      (fun t => t.a == 0x91 && t.flag .n) = true := by decide

theorem test_sta_abs_16 :
    runs [0x8D, 0x00, 0x20] { start false 0x00 with a := 0xBEEF, dbr := 1 }
      (fun t => t.mem.read 0x12000 == 0xEF && t.mem.read 0x12001 == 0xBE && t.p == 0) = true := by decide

theorem test_sty_width_follows_x :
    runs [0x8C, 0x34, 0x12] { start false 0x20 with y := 0xBEEF, dbr := 1 }
      (fun t => t.mem.read 0x11234 == 0xEF && t.mem.read 0x11235 == 0xBE) = true := by decide

theorem test_stx_zp_8 :
    runs [0x86, 0x10] (put [(0x11, 0xAA)] { start true 0x30 with x := 3 })
      (fun t => t.mem.read 0x10 == 3 && t.mem.read 0x11 == 0xAA) = true := by decide

theorem test_stz_abs_16 :
    runs [0x9C, 0x00, 0x20] (put [(0x2000, 0xFF), (0x2001, 0xFF)] (start false 0x00))
      (fun t => t.mem.read 0x2000 == 0 && t.mem.read 0x2001 == 0) = true := by decide

theorem test_adc_imm_overflow :
    runs [0x69, 0x01] { start false 0x30 with a := 0x7F }
      (fun t => t.a == 0x80 && t.p == 0xF0) = true := by decide

theorem test_sbc_imm_borrow :
    runs [0xE9, 0x01] (start false 0x31)
      (fun t => t.a == 0xFF && t.p == 0xB0) = true := by decide

theorem test_adc_decimal_16 :
    runs [0x69, 0x01, 0x00] { start false 0x08 with a := 0x1999 }
      (fun t => t.a == 0x2000 && t.draws == 1) = true := by decide

theorem test_sbc_decimal :
    runs [0xE9, 0x01] { start false 0x39 with a := 0x20 }
      (fun t => t.a == 0x19 && t.draws == 1) = true := by decide

theorem test_cmp_equal :
    runs [0xC9, 0x05] { start false 0x30 with a := 0x05 }
      (fun t => t.p == 0x33 && t.a == 0x05) = true := by decide

theorem test_cmp_less :
    runs [0xC9, 0x06] { start false 0x30 with a := 0x05 }
      (fun t => t.p == 0xB0) = true := by decide

theorem test_cpx_16 :
    runs [0xE0, 0x00, 0x10] { start false 0x20 with x := 0x2000 }
      (fun t => t.p == 0x21) = true := by decide

theorem test_cpy_8 :
    runs [0xC0, 0x10] { start false 0x30 with y := 0x0F }
      (fun t => t.p == 0xB0) = true := by decide

theorem test_and_imm :
    runs [0x29, 0x0F] { start false 0x30 with a := 0xF0 }
      (fun t => t.a == 0 && t.p == 0x32) = true := by decide

theorem test_eor_imm_16 :
    runs [0x49, 0xFF, 0xFF] { start false 0x00 with a := 0x00FF }
      (fun t => t.a == 0xFF00 && t.p == 0x80) = true := by decide

theorem test_ora_imm :
    runs [0x09, 0x80] { start false 0x30 with a := 0x01 }
      (fun t => t.a == 0x81 && t.p == 0xB0) = true := by decide

theorem test_bit_zp :
    runs [0x24, 0x10] (put [(0x10, 0xC0)] { start false 0x30 with a := 0x3F })
      (fun t => t.p == 0xF2 && t.a == 0x3F) = true := by decide

theorem test_bit_imm_source_profile :
    runs [0x89, 0x40] { start false 0x30 with a := 0x40 }
      (fun t => t.p == 0x70) = true := by decide

theorem test_tsb_zp :
    runs [0x04, 0x10] (put [(0x10, 0x30)] { start false 0x30 with a := 0x0F })
      (fun t => t.mem.read 0x10 == 0x3F && t.a == 0x0F && t.draws == 2) = true := by decide

theorem test_trb_zp :
    runs [0x14, 0x10] (put [(0x10, 0xF3)] { start false 0x30 with a := 0x33 })
      (fun t => t.mem.read 0x10 == 0xC0 && t.draws == 2) = true := by decide

theorem test_asl_acc_keeps_AH :
    runs [0x0A] { start false 0x30 with a := 0x1281 }
      (fun t => t.a == 0x1202 && t.p == 0x31) = true := by decide

theorem test_asl_abs_16 :
    runs [0x0E, 0x00, 0x20] (put [(0x2001, 0x80)] (start false 0x00))
      (fun t => t.mem.read 0x2001 == 0 && t.p == 0x03) = true := by decide

theorem test_lsr_acc :
    runs [0x4A] { start false 0x30 with a := 3 }
      (fun t => t.a == 1 && t.p == 0x31) = true := by decide

theorem test_rol_acc :
    runs [0x2A] { start false 0x31 with a := 0x80 }
      (fun t => t.a == 1 && t.p == 0x31) = true := by decide

theorem test_ror_acc_16 :
    runs [0x6A] { start false 0x01 with a := 1 }
      (fun t => t.a == 0x8000 && t.p == 0x81) = true := by decide

theorem test_inc_zp :
    runs [0xE6, 0x40] (put [(0x40, 0xFF)] (start false 0x30))
      (fun t => t.mem.read 0x40 == 0 && t.p == 0x32) = true := by decide

theorem test_inc_acc_16 :
    runs [0x1A] { start false 0x00 with a := 0x00FF }
      (fun t => t.a == 0x0100 && t.p == 0) = true := by decide

theorem test_dec_acc_8 :
    runs [0x3A] { start false 0x30 with a := 0x1200 }
      (fun t => t.a == 0x12FF && t.p == 0xB0) = true := by decide

theorem test_dex_8 :
    runs [0xCA] (start false 0x30)
      (fun t => t.x == 0xFF && t.p == 0xB0) = true := by decide

theorem test_iny_16 :
    runs [0xC8] { start false 0x20 with y := 0xFFFF }
      (fun t => t.y == 0 && t.p == 0x22) = true := by decide

theorem test_inx_16 :
    runs [0xE8] { start false 0x00 with x := 0xFF }
      (fun t => t.x == 0x100 && t.p == 0) = true := by decide

theorem test_dey_16 :
    runs [0x88] { start false 0x00 with y := 0x0100 }
      (fun t => t.y == 0xFF && t.p == 0) = true := by decide

theorem test_beq_taken :
    runs [0xF0, 0x7F] { start true 0x32 with pc := 0x80FE }
      (fun t => t.pc == 0x817F) = true := by decide

theorem test_bmi_backwards :
    runs [0x30, 0x80] (start true 0xB0)
      (fun t => t.pc == 0x7F82) = true := by decide

theorem test_bvc_wraps_in_the_bank :
    runs [0x50, 0x00] { start true 0x30 with pc := 0xFFFE, pbr := 3 }
      (fun t => t.pc == 0 && t.pbr == 3) = true := by decide

theorem test_bcc_taken :
    runs [0x90, 0x10] (start true 0x30)
      (fun t => t.pc == 0x8012) = true := by decide

theorem test_bcc_not_taken :
    runs [0x90, 0x10] (start true 0x31)
      (fun t => t.pc == 0x8002) = true := by decide

theorem test_bcs_to_itself :
    runs [0xB0, 0xFE] (start true 0x31)
      (fun t => t.pc == 0x8000) = true := by decide

theorem test_bne_taken :
    runs [0xD0, 0xFB] { start true 0x30 with pc := 0x8007 }
      (fun t => t.pc == 0x8004) = true := by decide

theorem test_bpl_taken :
    runs [0x10, 0xFB] { start true 0x30 with pc := 0x8008 }
      (fun t => t.pc == 0x8005) = true := by decide

theorem test_bvs_taken :
    runs [0x70, 0x02] (start true 0x70)
      (fun t => t.pc == 0x8004) = true := by decide

theorem test_bra :
    runs [0x80, 0x05] (start true 0x30)
      (fun t => t.pc == 0x8007) = true := by decide

theorem test_brl_wraps :
    runs [0x82, 0xFD, 0x7F] (start true 0x30)
      (fun t => t.pc == 0) = true := by decide

theorem test_jmp_abs_ind_V8 :
    runs [0x6C, 0xFF, 0x12] (put [(0x12FF, 0x34), (0x1300, 0x12)] (start true 0x30))
      (fun t => t.pc == 0x1234) = true := by decide

theorem test_jmp_absX_ind :
    runs [0x7C, 0x00, 0x90] (put [(0x29004, 0xCD), (0x29005, 0xAB)] { start false 0x20 with pbr := 2, x := 4 })
      (fun t => t.pc == 0xABCD && t.pbr == 2) = true := by decide

theorem test_jml :
    runs [0x5C, 0x00, 0x80, 0x7E] (start false 0x00)
      (fun t => t.pc == 0x8000 && t.pbr == 0x7E) = true := by decide

theorem test_jmp_abs_ind_long :
    runs [0xDC, 0x00, 0x30] (put [(0x3000, 0x56), (0x3001, 0x34), (0x3002, 0x12)] (start false 0x00))
      (fun t => t.pc == 0x3456 && t.pbr == 0x12) = true := by decide

theorem test_jsr_abs :
    runs [0x20, 0x08, 0x80] { start true 0x30 with pc := 0x8002 }
      (fun t => t.mem.read 0x1FF == 0x80 && t.mem.read 0x1FE == 4 && t.sp == 0x1FD && t.pc == 0x8008) = true := by decide

theorem test_jsr_wraps_in_page_1 :
    runs [0x20, 0x08, 0x80] { start true 0x30 with pc := 0x8002, sp := 0x0100 }
      (fun t => t.mem.read 0x100 == 0x80 && t.mem.read 0x1FF == 4 && t.sp == 0x1FE) = true := by decide

theorem test_jsl :
    runs [0x22, 0x00, 0x90, 0x7E] { start false 0x00 with sp := 0x1FFF }
      (fun t => t.mem.read 0x1FFE == 0x80 && t.mem.read 0x1FFD == 3 && t.sp == 0x1FFC && t.pbr == 0x7E && t.pc == 0x9000) = true := by decide

theorem test_jsr_absX_ind :
    runs [0xFC, 0x00, 0x90] (put [(0x9003, 0xA0)] { start false 0x30 with sp := 0x1FFF, x := 2 })
      (fun t => t.mem.read 0x1FFE == 2 && t.pc == 0xA000) = true := by decide

theorem test_rts :
    runs [0x60] (put [(0x1FE, 0x04), (0x1FF, 0x80)] { start true 0x30 with sp := 0x01FD })
      (fun t => t.pc == 0x8005 && t.sp == 0x1FF) = true := by decide

theorem test_rts_increment_wraps :
    runs [0x60] (put [(0x1FFE, 0xFF), (0x1FFF, 0xFF)] { start false 0x00 with sp := 0x1FFD, pbr := 5 })
      (fun t => t.pc == 0 && t.pbr == 5) = true := by decide

theorem test_rtl :
    runs [0x6B] (put [(0x1FFD, 0x03), (0x1FFE, 0x80)] { start false 0x00 with sp := 0x1FFC, pbr := 0x7E })
      (fun t => t.pc == 0x8004 && t.pbr == 0 && t.sp == 0x1FFF) = true := by decide

theorem test_pea :
    runs [0xF4, 0x34, 0x12] (start true 0x30)
      (fun t => t.mem.read 0x1FF == 0x12 && t.mem.read 0x1FE == 0x34 && t.sp == 0x1FD) = true := by decide

theorem test_pei :
    runs [0xD4, 0x10] (put [(0x10, 0x78), (0x11, 0x56)] (start true 0x30))
      (fun t => t.mem.read 0x1FF == 0x56 && t.mem.read 0x1FE == 0x78) = true := by decide

theorem test_per :
    runs [0x62, 0x01, 0x00] (start true 0x30)
      (fun t => t.mem.read 0x1FF == 0x80 && t.mem.read 0x1FE == 4) = true := by decide

theorem test_pha_16 :
    runs [0x48] { start false 0x00 with a := 0xBEEF, sp := 0x1FFF }
      (fun t => t.mem.read 0x1FFF == 0xBE && t.mem.read 0x1FFE == 0xEF && t.sp == 0x1FFD) = true := by decide

theorem test_php_emulation :
    runs [0x08] (start true 0x36)
      (fun t => t.mem.read 0x1FF == 0x36 && t.sp == 0x1FE) = true := by decide

theorem test_php_native :
    runs [0x08] (start false 0x04)
      (fun t => t.mem.read 0x1FF == 0x04) = true := by decide

theorem test_phd :
    runs [0x0B] { start true 0x30 with d := 0x1234 }
      (fun t => t.mem.read 0x1FF == 0x12 && t.mem.read 0x1FE == 0x34) = true := by decide

theorem test_phk :
    runs [0x4B] { start false 0x30 with pbr := 0x7E, sp := 0x1FFF }
      (fun t => t.mem.read 0x1FFF == 0x7E) = true := by decide

theorem test_phb :
    runs [0x8B] { start false 0x00 with dbr := 0x7F, sp := 0x1FFF }
      (fun t => t.mem.read 0x1FFF == 0x7F && t.sp == 0x1FFE) = true := by decide

theorem test_phx_8 :
    runs [0xDA] { start true 0x30 with x := 0x55 }
      (fun t => t.mem.read 0x1FF == 0x55 && t.sp == 0x1FE) = true := by decide

theorem test_phy_16 :
    runs [0x5A] { start false 0x00 with y := 0x1234, sp := 0x1FFF }
      (fun t => t.mem.read 0x1FFF == 0x12 && t.mem.read 0x1FFE == 0x34) = true := by decide

theorem test_pla_16 :
    runs [0x68] (put [(0x1FFF, 0x80)] { start false 0x00 with sp := 0x1FFD })
      (fun t => t.a == 0x8000 && t.flag .n && t.sp == 0x1FFF) = true := by decide

theorem test_plx_8 :
    runs [0xFA] { start false 0x30 with x := 0x55, sp := 0x1FFD }
      (fun t => t.x == 0 && t.flag .z && t.sp == 0x1FFE) = true := by decide

theorem test_ply_16 :
    runs [0x7A] (put [(0x1FFE, 0x01), (0x1FFF, 0x80)] { start false 0x00 with sp := 0x1FFD })
      (fun t => t.y == 0x8001 && t.p == 0x80) = true := by decide

theorem test_plb :
    runs [0xAB] (put [(0x1FFE, 0x80)] { start false 0x30 with sp := 0x1FFD })
      (fun t => t.dbr == 0x80 && t.sp == 0x1FFE && t.p == 0x30) = true := by decide

theorem test_pld :
    runs [0x2B] (put [(0x1FFF, 0x40)] { start false 0x30 with sp := 0x1FFD })
      (fun t => t.d == 0x4000 && t.sp == 0x1FFF && t.p == 0x30) = true := by decide

theorem test_plp_native :
    runs [0x28] (put [(0x1FFE, 0x30)] { start false 0x00 with x := 0x1234, y := 0xABCD, sp := 0x1FFD })
      (fun t => t.p == 0x30 && t.x == 0x34 && t.y == 0xCD) = true := by decide

theorem test_plp_emulation :
    runs [0x28] (put [(0x1FE, 0xC3)] { start true 0x30 with sp := 0x01FD })
      (fun t => t.p == 0xF3) = true := by decide

theorem test_tax_16_takes_AH :
    runs [0xAA] { start false 0x20 with a := 0x12FF }
      (fun t => t.x == 0x12FF && t.p == 0x20) = true := by decide

theorem test_tay_8 :
    runs [0xA8] { start false 0x30 with a := 0x12FF }
      (fun t => t.y == 0xFF && t.p == 0xB0) = true := by decide

theorem test_txa_16_from_8 :
    runs [0x8A] { start false 0x10 with a := 0xFFFF, x := 0x80 }
      (fun t => t.a == 0x80 && t.p == 0x10) = true := by decide

theorem test_tya_8_keeps_AH :
    runs [0x98] { start false 0x30 with a := 0x1200, y := 0x80 }
      (fun t => t.a == 0x1280 && t.p == 0xB0) = true := by decide

theorem test_tcd :
    runs [0x5B] { start true 0x30 with a := 0x4000 }
      (fun t => t.d == 0x4000 && t.p == 0x30) = true := by decide

theorem test_tcs_emulation :
    runs [0x1B] { start true 0x30 with a := 0x12FF, sp := 0x01A0 }
      (fun t => t.sp == 0x1FF) = true := by decide

theorem test_tsc :
    runs [0x3B] { start true 0x30 with sp := 0x01FD }
      (fun t => t.a == 0x1FD && t.p == 0x30) = true := by decide

theorem test_tsx_8 :
    runs [0xBA] { start true 0x30 with sp := 0x01FD }
      (fun t => t.x == 0xFD && t.p == 0xB0) = true := by decide

theorem test_txs_native_8bit_index :
    runs [0x9A] { start false 0x30 with x := 0xFF, sp := 0x1FFF }
      (fun t => t.sp == 0x00FF) = true := by decide

theorem test_txs_emulation :
    runs [0x9A] { start true 0x30 with x := 0xFF, sp := 0x0100 }
      (fun t => t.sp == 0x1FF) = true := by decide

theorem test_tdc_16_bit_flags :
    runs [0x7B] { start false 0x30 with d := 0x8000 }
      (fun t => t.a == 0x8000 && t.p == 0xB0) = true := by decide

theorem test_xba :
    runs [0xEB] { start true 0x30 with a := 0x1234 }
      (fun t => t.a == 0x3412 && t.p == 0x30) = true := by decide

theorem test_tyx :
    runs [0xBB] { start false 0x30 with y := 0x80, x := 1 }
      (fun t => t.x == 0x80 && t.p == 0xB0) = true := by decide

theorem test_txy :
    runs [0x9B] { start false 0x00 with x := 0x1234 }
      (fun t => t.y == 0x1234 && t.p == 0) = true := by decide

theorem test_rep_native :
    runs [0xC2, 0x30] (start false 0x34)
      (fun t => t.p == 0x04) = true := by decide

theorem test_rep_emulation :
    runs [0xC2, 0x30] (start true 0x34)
      (fun t => t.p == 0x34) = true := by decide

theorem test_sep_native :
    runs [0xE2, 0x30] { start false 0x04 with x := 0x1234, y := 0x5678 }
      (fun t => t.p == 0x34 && t.x == 0x34 && t.y == 0x78) = true := by decide

theorem test_sep_emulation :
    runs [0xE2, 0x40] (start true 0x30)
      (fun t => t.p == 0x70) = true := by decide

theorem test_xce_to_native :
    runs [0xFB] (start true 0x30)
      (fun t => !t.e && t.p == 0x31) = true := by decide

theorem test_xce_to_emulation :
    runs [0xFB] { start false 0x01 with a := 0xABCD, x := 0x1234, y := 0x5678, sp := 0x1FF0 }
      (fun t => t.e && t.p == 0x30 && t.x == 0x34 && t.y == 0x78 && t.sp == 0x1F0 && t.a == 0xABCD) = true := by decide

theorem test_clc :
    runs [0x18] (start true 0xFF)
      (fun t => t.p == 0xFE) = true := by decide

theorem test_sec :
    runs [0x38] (start true 0x30)
      (fun t => t.p == 0x31) = true := by decide

theorem test_cld :
    runs [0xD8] (start true 0xFF)
      (fun t => t.p == 0xF7) = true := by decide

theorem test_sed :
    runs [0xF8] (start true 0x30)
      (fun t => t.p == 0x38) = true := by decide

theorem test_cli :
    runs [0x58] (start true 0xFF)
      (fun t => t.p == 0xFB) = true := by decide

theorem test_sei :
    runs [0x78] (start true 0x30)
      (fun t => t.p == 0x34) = true := by decide

theorem test_clv :
    runs [0xB8] (start true 0xFF)
      (fun t => t.p == 0xBF) = true := by decide

theorem test_mvn_repeats :
    runs [0x54, 0x7F, 0x7E] (put [(0x7E1000, 0xDE)] { start false 0x00 with a := 3, x := 0x1000, y := 0x2000 })
      (fun t => t.mem.read 0x7F2000 == 0xDE && t.a == 2 && t.x == 0x1001 && t.y == 0x2001 && t.dbr == 0x7F && t.pc == 0x8000) = true := by decide

theorem test_mvn_last_byte :
    runs [0x54, 0x7F, 0x7E] (put [(0x7EFFFF, 0xEF)] { start false 0x00 with x := 0xFFFF, y := 0x2003 })
      (fun t => t.mem.read 0x7F2003 == 0xEF && t.a == 0xFFFF && t.x == 0 && t.y == 0x2004 && t.pc == 0x8003) = true := by decide

theorem test_mvp_8bit_index :
    runs [0x44, 0x00, 0x00] (put [(0x0, 0x11)] { start false 0x30 with a := 0x100, y := 0x80 })
      (fun t => t.mem.read 0x80 == 0x11 && t.a == 0xFF && t.x == 0xFF && t.y == 0x7F && t.pc == 0x8000) = true := by decide

theorem test_brk_native :
    runs [0x00, 0x00] (put [(0xFFE7, 0x90)] { start false 0x09 with pbr := 0x12, sp := 0x1FFF, pc := 0x3456 })
      (fun t => t.mem.read 0x1FFF == 0x12 && t.mem.read 0x1FFE == 0x34 && t.mem.read 0x1FFD == 0x58 && t.mem.read 0x1FFC == 9 && t.sp == 0x1FFB && t.p == 5 && t.pbr == 0 && t.pc == 0x9000) = true := by decide

theorem test_brk_emulation :
    runs [0x00, 0x00] (put [(0xFFFF, 0x90)] (start true 0x38))
      (fun t => t.mem.read 0x1FF == 0x80 && t.mem.read 0x1FE == 2 && t.mem.read 0x1FD == 0x38 && t.sp == 0x1FC && t.p == 0x34 && t.pc == 0x9000) = true := by decide

theorem test_cop_emulation :
    runs [0x02, 0x07] (put [(0xFFF5, 0xA0)] (start true 0x30))
      (fun t => t.mem.read 0x1FD == 0x30 && t.p == 0x34 && t.pc == 0xA000) = true := by decide

theorem test_cop_native :
    runs [0x02, 0x07] (put [(0xFFE5, 0xA0)] { start false 0x05 with sp := 0x1FFF, pc := 0x8008 })
      (fun t => t.mem.read 0x1FFD == 0x0A && t.mem.read 0x1FFC == 5 && t.pc == 0xA000) = true := by decide

theorem test_irq_native :
    runs [0xEA] (put [(0xFFEF, 0xC0)] { start false 0x00 with pbr := 1, pc := 0x2345, sp := 0x1FFF, irqLine := true })
      (fun t => t.mem.read 0x1FFF == 1 && t.mem.read 0x1FFE == 0x23 && t.mem.read 0x1FFD == 0x45 && t.sp == 0x1FFB && t.p == 4 && t.pbr == 0 && t.pc == 0xC000) = true := by decide

theorem test_irq_emulation :
    runs [0xEA] (put [(0xFFFF, 0x90)] { start true 0x33 with pc := 0x8010, irqLine := true })
      (fun t => t.mem.read 0x1FE == 0x10 && t.mem.read 0x1FD == 0x23 && t.p == 0x37 && t.pc == 0x9000) = true := by decide

theorem test_nmi_emulation :
    runs [0xEA] (put [(0xFFFB, 0xB0)] { start true 0x34 with pc := 0x8010, nmiPending := true })
      (fun t => t.mem.read 0x1FD == 0x24 && t.pc == 0xB000 && !t.nmiPending) = true := by decide

theorem test_rti_emulation :
    runs [0x40] (put [(0x1FD, 0x30), (0x1FE, 0x02), (0x1FF, 0x80)] { start true 0x34 with sp := 0x01FC })
      (fun t => t.p == 0x30 && t.pc == 0x8002 && t.sp == 0x1FF) = true := by decide

theorem test_rti_native :
    runs [0x40] (put [(0x1FFC, 0x30), (0x1FFD, 0x58), (0x1FFE, 0x34), (0x1FFF, 0x12)] { start false 0x04 with x := 0x1234, sp := 0x1FFB })
      (fun t => t.p == 0x30 && t.x == 0x34 && t.pc == 0x3458 && t.pbr == 0x12 && t.sp == 0x1FFF) = true := by decide

theorem test_wai :
    runs [0xCB] (start true 0x34)
      (fun t => t.run == .waiting && t.pc == 0x8001) = true := by decide

theorem test_stp :
    runs [0xDB] (start true 0x34)
      (fun t => t.run == .stopped && t.pc == 0x8001) = true := by decide

theorem test_wdm :
    runs [0x42] (start true 0x34)
      (fun t => t.pc == 0x8001) = true := by decide

theorem test_nop :
    runs [0xEA] (start true 0x34)
      (fun t => t.pc == 0x8001 && t.p == 0x34) = true := by decide

theorem test_reset :
    runs [0xEA] (put [(0xFFFD, 0x80)] { start false 0xCB with d := 5, resetLine := true, run := .stopped })
      (fun t => t.e && t.d == 0 && t.pc == 0x8000 && t.run == .running) = true := by decide

/-! ### The other settings of the parameters (00_scope.md R5; 95_test_vectors.md, section 1.1 and the vectors that name
one; 42_alu.md R190, 45_stack.md R263, 46_transfer.md R283, 60_exceptions.md R362, 70_reset_and_hazards.md R400) -/

theorem test_dpWrapCond_hardwareRule_V2 :
    runs [0x74, 0xF0] (put [(0x10, 0x77), (0x4010, 0x55), (0x110, 0x99), (0xEF, 0x66), (0x100EF, 0xC3)] { start true 0x30 with x := 0x20, cfg := { dpWrapCond := .hardwareRule } })
      (fun t => t.mem.read 0x10 == 0 && t.mem.read 0x110 == 0x99) = true := by decide

theorem test_dpWrapCond_hardwareRule_V3 :
    runs [0xB5, 0xF0] (put [(0x10, 0x77), (0x4010, 0x55), (0x110, 0x99), (0xEF, 0x66), (0x100EF, 0xC3)] { start true 0x30 with x := 0x20, d := 0x4000, cfg := { dpWrapCond := .hardwareRule } })
      (fun t => t.a == 0x55) = true := by decide

theorem test_dpCarry_false_V5 :
    runs [0xB5, 0xF0] (put [(0x10, 0x77), (0x4010, 0x55), (0x110, 0x99), (0xEF, 0x66), (0x100EF, 0xC3)] { start false 0x20 with x := 0xFFFF, cfg := { dpCarry := false } })
      (fun t => t.a == 0x66) = true := by decide

theorem test_bit_immediate_hardware :
    runs [0x89, 0x40] { start true 0xB2 with a := 0x40, cfg := { flagProfile := .hardware } }
      (fun t => t.p == 0xB0) = true := by decide

theorem test_trb_hardware :
    runs [0x14, 0x10] (put [(0x10, 0x3C)] { start true 0xF2 with a := 0x0F, cfg := { flagProfile := .hardware } })
      (fun t => t.mem.read 0x10 == 0x30 && t.p == 0xF0) = true := by decide

theorem test_plb_hardware :
    runs [0xAB] (put [(0x1FFE, 0x80)] { start false 0x30 with sp := 0x1FFD, cfg := { flagProfile := .hardware } })
      (fun t => t.dbr == 0x80 && t.p == 0xB0) = true := by decide

theorem test_pld_hardware :
    runs [0x2B] { start false 0x30 with sp := 0x1FFD, cfg := { flagProfile := .hardware } }
      (fun t => t.d == 0 && t.p == 0x32) = true := by decide

theorem test_tcd_hardware :
    runs [0x5B] { start true 0x30 with a := 0x8000, cfg := { flagProfile := .hardware } }
      (fun t => t.d == 0x8000 && t.p == 0xB0) = true := by decide

theorem test_xba_hardware :
    runs [0xEB] { start true 0xB2 with a := 0x1234, cfg := { flagProfile := .hardware } }
      (fun t => t.a == 0x3412 && t.p == 0x30) = true := by decide

theorem test_wdm_of_two_bytes :
    runs [0x42] { start true 0x34 with cfg := { wdmLength := .two } }
      (fun t => t.pc == 0x8002) = true := by decide

theorem test_abort_taken_before_nmi :
    runs [0xEA] (put [(0xFFF9, 0xB0)] { start true 0x34 with abortLine := true, nmiPending := true, cfg := { abortAsserted := true } })
      (fun t => t.pc == 0xB000 && t.nmiPending && t.mem.read 0x1FD == 0x24) = true := by decide

theorem test_abort_not_looked_at :
    runs [0xEA] { start true 0x34 with abortLine := true }
      (fun t => t.pc == 0x8001) = true := by decide

theorem test_high_byte_first_store :
    runs [0x8D, 0x00, 0x20] { start false 0x00 with a := 0x1234, cfg := { byteOrder := .highFirst } }
      (fun t => t.mem.read 0x2000 == 0x34 && t.mem.read 0x2001 == 0x12) = true := by decide

theorem test_decimal_of_the_platform_on_valid_bcd :
    runs [0x69, 0x46] { start true 0x39 with a := 0x58, cfg := { decimal := .platform } }
      (fun t => t.a == 0x05) = true := by decide

theorem test_launch_with_given_reset_values :
    let t := State.launch { resetDraw := some ⟨0x1234, 0x56, 0x78, 0x9A, true, false, true, false⟩ } [(0xFFFD, 0x80)]
    t.a = 0x1234 ∧ t.x = 0x56 ∧ t.y = 0x78 ∧ t.sp = 0x19A ∧ t.p = 0xB6 ∧ t.pc = 0x8000 ∧ t.e = true := by decide

theorem test_launch_keeps_parameters_and_memory :
    let t := State.launch { wdmLength := .two } [(0x8000, 0x42)]
    t.cfg.wdmLength = .two ∧ t.mem.read 0x8000 = 0x42 := by decide

/-! ### Hypotheses that hold: for each statement that has some, a state and operands that meet them, clause by clause -/

/-- Native mode with 16-bit registers. -/
def wide : State := start false 0x00

theorem witness_StepRunsTheDecodedInstruction :
    State.reset.resetLine = false ∧ State.reset.run = .running ∧ State.reset.nmiPending = false ∧
    State.reset.irqLine = false ∧ State.reset.cfg.abortAsserted = false ∧
    decode State.reset.m8 State.reset.x8 State.reset.fetchBytes = .ok (.brk 0) ∧
    Instr.WellFormed State.reset.m8 State.reset.x8 (.brk 0) = true := ⟨rfl, rfl, rfl, rfl, rfl, rfl, rfl⟩

theorem witness_StepRunsTheDecodedInstruction_with_a_masked_irq :
    let s := { State.reset with irqLine := true, cfg := { abortAsserted := true } }
    s.resetLine = false ∧ s.run = .running ∧ s.nmiPending = false ∧ s.flag .i = true ∧ s.abortLine = false ∧
    decode s.m8 s.x8 s.fetchBytes = .ok (.brk 0) := ⟨rfl, rfl, rfl, rfl, rfl, rfl⟩

theorem witness_ResetLineResetsFromAnyState :
    { State.reset with resetLine := true, run := .stopped }.resetLine = true := rfl

theorem witness_ResetLineResetsFromAnyState_with_given_values :
    let s := { State.reset with
      resetLine := true, cfg := { resetDraw := some ⟨0xFFFF, 0xFF, 0xFF, 0xFF, true, true, true, true⟩ } }
    s.resetLine = true ∧ ∃ r, s.cfg.resetDraw = some r := ⟨rfl, _, rfl⟩

theorem witness_DecodeOfEncodeIsTheInstruction :
    Instr.WellFormed true true (.ldaImm (.b8 0xFF)) = true ∧ Instr.WellFormed false false (.ldaImm (.b16 0xFFFF)) = true := by decide

theorem witness_DecodedInstructionIsWellFormedAndEncodesItsBytes :
    decode false true [0xA9, 0x34, 0x12, 0xEA] = .ok (.ldaImm (.b16 0x1234)) := rfl

theorem witness_FetchWordRunsAsTheNextInstruction :
    Memory.wf State.reset.mem = true ∧
    decode State.reset.m8 State.reset.x8 (wordBytes 16 0x80A9) = .ok (.ldaImm (.b8 0x80)) := ⟨rfl, rfl⟩

theorem witness_EveryStepKeepsTheInvariant :
    State.reset.Inv ∧ ∃ t, step State.reset = .next t := ⟨by decide, _, rfl⟩

theorem witness_DirectPageAddresses_wrapping :
    let s := { State.reset with x := 0xFF }
    (s.e = true ∧ s.cfg.dpWrapCond = .sourceRule ∧ s.d = 0 ∧ legacy6502.contains 0xB5 = true) ∧
    (0xFF : Byte).toNat + s.x.toNat = 510 := by decide

theorem witness_DirectPageAddresses_wrapping_hardware :
    let s := { State.reset with d := 0xFF00, x := 0xFF, cfg := { dpWrapCond := .hardwareRule } }
    s.e = true ∧ s.cfg.dpWrapCond = .hardwareRule ∧ lo s.d = 0 := by decide

theorem witness_DirectPageAddresses_summing :
    let s := { State.reset with d := 0xFFFF, x := 0xFF }
    let h := { s with cfg := { dpCarry := false, dpWrapCond := .hardwareRule } }
    s.d ≠ 0 ∧ s.cfg.dpWrapCond = .sourceRule ∧ s.cfg.dpCarry = true ∧ lo h.d ≠ 0 ∧ h.cfg.dpCarry = false := by decide

theorem witness_LdaLoadsTheAccumulator_8_bits :
    Instr.mnemonic (.ldaImm (.b8 0xFF)) = .lda ∧ Instr.form (.ldaImm (.b8 0xFF)) = .data (.imm (.b8 0xFF)) ∧
    Instr.WellFormed State.reset.m8 State.reset.x8 (.ldaImm (.b8 0xFF)) = true ∧ State.reset.m8 = true := by decide

theorem witness_LdaLoadsTheAccumulator_16_bits :
    Instr.mnemonic (.ldaImm (.b16 0xFFFF)) = .lda ∧ Instr.form (.ldaImm (.b16 0xFFFF)) = .data (.imm (.b16 0xFFFF)) ∧
    Instr.WellFormed wide.m8 wide.x8 (.ldaImm (.b16 0xFFFF)) = true ∧ wide.m8 = false := by decide

theorem witness_LdxLoadsTheIndexRegister_8_bits :
    Instr.mnemonic (.ldxImm (.b8 0xFF)) = .ldx ∧ Instr.form (.ldxImm (.b8 0xFF)) = .data (.imm (.b8 0xFF)) ∧
    Instr.WellFormed State.reset.m8 State.reset.x8 (.ldxImm (.b8 0xFF)) = true ∧ State.reset.x8 = true := by decide

theorem witness_LdxLoadsTheIndexRegister_16_bits :
    Instr.mnemonic (.ldxImm (.b16 0xFFFF)) = .ldx ∧ Instr.form (.ldxImm (.b16 0xFFFF)) = .data (.imm (.b16 0xFFFF)) ∧
    Instr.WellFormed wide.m8 wide.x8 (.ldxImm (.b16 0xFFFF)) = true ∧ wide.x8 = false := by decide

theorem witness_LdyLoadsTheIndexRegister_8_bits :
    Instr.mnemonic (.ldyAbs 0xFFFF) = .ldy ∧ Instr.form (.ldyAbs 0xFFFF) = .data (.mem (.abs 0xFFFF)) ∧
    Instr.WellFormed State.reset.m8 State.reset.x8 (.ldyAbs 0xFFFF) = true ∧ State.reset.x8 = true := by decide

theorem witness_LdyLoadsTheIndexRegister_16_bits :
    Instr.mnemonic (.ldyAbs 0xFFFF) = .ldy ∧ Instr.form (.ldyAbs 0xFFFF) = .data (.mem (.abs 0xFFFF)) ∧
    Instr.WellFormed wide.m8 wide.x8 (.ldyAbs 0xFFFF) = true ∧ wide.x8 = false := by decide

theorem witness_StaStoresTheAccumulator_8_bits :
    Instr.mnemonic (.staAbs 0xFFFF) = .sta ∧ Instr.form (.staAbs 0xFFFF) = .data (.mem (.abs 0xFFFF)) ∧
    Memory.wf State.reset.mem = true ∧ State.reset.m8 = true := by decide

theorem witness_StaStoresTheAccumulator_16_bits :
    Instr.mnemonic (.staAbs 0xFFFF) = .sta ∧ Instr.form (.staAbs 0xFFFF) = .data (.mem (.abs 0xFFFF)) ∧
    Memory.wf wide.mem = true ∧ wide.m8 = false := by decide

theorem witness_StxAndStyStoreTheIndexRegister_8_bits :
    Instr.mnemonic (.stxZp 0xFF) = .stx ∧ Instr.form (.stxZp 0xFF) = .data (.mem (.zp 0xFF)) ∧
    Memory.wf State.reset.mem = true ∧ State.reset.x8 = true := by decide

theorem witness_StxAndStyStoreTheIndexRegister_16_bits :
    Instr.mnemonic (.styZp 0xFF) = .sty ∧ Instr.form (.styZp 0xFF) = .data (.mem (.zp 0xFF)) ∧
    Memory.wf wide.mem = true ∧ wide.x8 = false := by decide

theorem witness_StxAndStyStoreTheIndexRegister_stx_16_bits :
    Instr.mnemonic (.stxZp 0xFF) = .stx ∧ Memory.wf wide.mem = true ∧ wide.x8 = false := by decide

theorem witness_StxAndStyStoreTheIndexRegister_sty_8_bits :
    Instr.mnemonic (.styZp 0xFF) = .sty ∧ Memory.wf State.reset.mem = true ∧ State.reset.x8 = true := by decide

theorem witness_StzStoresZero_8_bits :
    Instr.mnemonic (.stzZpX 0xFF) = .stz ∧ Instr.form (.stzZpX 0xFF) = .data (.mem (.zpX 0xFF)) ∧
    Memory.wf State.reset.mem = true ∧ State.reset.m8 = true := by decide

theorem witness_StzStoresZero_16_bits :
    Instr.mnemonic (.stzZpX 0xFF) = .stz ∧ Instr.form (.stzZpX 0xFF) = .data (.mem (.zpX 0xFF)) ∧
    Memory.wf wide.mem = true ∧ wide.m8 = false := by decide

theorem witness_AdcAddsInBinary_8_bits :
    Instr.mnemonic (.adcImm (.b8 0x01)) = .adc ∧ Instr.form (.adcImm (.b8 0x01)) = .data (.imm (.b8 0x01)) ∧
    Instr.WellFormed State.reset.m8 State.reset.x8 (.adcImm (.b8 0x01)) = true ∧ State.reset.m8 = true ∧ State.reset.flag .d = false := by decide

theorem witness_AdcAddsInBinary_16_bits :
    Instr.mnemonic (.adcImm (.b16 0x0001)) = .adc ∧ Instr.form (.adcImm (.b16 0x0001)) = .data (.imm (.b16 0x0001)) ∧
    Instr.WellFormed wide.m8 wide.x8 (.adcImm (.b16 0x0001)) = true ∧ wide.m8 = false ∧ wide.flag .d = false := by decide

theorem witness_SbcSubtractsInBinary_8_bits :
    Instr.mnemonic (.sbcImm (.b8 0x01)) = .sbc ∧ Instr.form (.sbcImm (.b8 0x01)) = .data (.imm (.b8 0x01)) ∧
    Instr.WellFormed State.reset.m8 State.reset.x8 (.sbcImm (.b8 0x01)) = true ∧ State.reset.m8 = true ∧ State.reset.flag .d = false := by decide

theorem witness_SbcSubtractsInBinary_16_bits :
    Instr.mnemonic (.sbcImm (.b16 0x0001)) = .sbc ∧ Instr.form (.sbcImm (.b16 0x0001)) = .data (.imm (.b16 0x0001)) ∧
    Instr.WellFormed wide.m8 wide.x8 (.sbcImm (.b16 0x0001)) = true ∧ wide.m8 = false ∧ wide.flag .d = false := by decide

theorem witness_AdcAndSbcInDecimal :
    let s := { start true 0x38 with a := 0x99 }
    Instr.mnemonic (.adcImm (.b8 0x99)) = .adc ∧ Instr.mnemonic (.sbcImm (.b8 0x99)) = .sbc ∧
    Instr.WellFormed s.m8 s.x8 (.adcImm (.b8 0x99)) = true ∧ Instr.WellFormed s.m8 s.x8 (.sbcImm (.b8 0x99)) = true ∧
    s.flag .d = true ∧ decimalValid s.wm (s.acc s.wm) (loadOperand s.wm 0x69 (.imm (.b8 0x99)) s) = true ∧
    decimalValid s.wm (s.acc s.wm) (loadOperand s.wm 0xE9 (.imm (.b8 0x99)) s) = true := by decide

theorem witness_DecimalOnInvalidBcdStillRuns :
    let s := { start true 0x38 with a := 0x99 }
    Instr.mnemonic (.adcImm (.b8 0x9A)) = .adc ∧ Instr.WellFormed s.m8 s.x8 (.adcImm (.b8 0x9A)) = true ∧
    s.flag .d = true ∧ decimalValid s.wm (s.acc s.wm) (loadOperand s.wm 0x69 (.imm (.b8 0x9A)) s) = false := by decide

theorem witness_DecimalOnInvalidBcdStillRuns_platform :
    let s := { start true 0x38 with a := 0x99, cfg := { decimal := .platform } }
    Instr.mnemonic (.adcImm (.b8 0x9A)) = .adc ∧ Instr.WellFormed s.m8 s.x8 (.adcImm (.b8 0x9A)) = true ∧
    s.flag .d = true ∧ s.cfg.decimal = .platform ∧
    decimalValid s.wm (s.acc s.wm) (loadOperand s.wm 0x69 (.imm (.b8 0x9A)) s) = false ∧
    decimalValid s.wm (s.acc s.wm) (loadOperand s.wm 0x69 (.imm (.b8 0x99)) s) = true := by decide

theorem witness_DecimalOnInvalidBcdStillRuns_sbc :
    let s := { start true 0x38 with a := 0xA0 }
    Instr.mnemonic (.sbcImm (.b8 0x00)) = .sbc ∧ Instr.WellFormed s.m8 s.x8 (.sbcImm (.b8 0x00)) = true ∧
    s.flag .d = true ∧ decimalValid s.wm (s.acc s.wm) (loadOperand s.wm 0xE9 (.imm (.b8 0x00)) s) = false := by decide

theorem witness_LogicInstructions :
    Instr.mnemonic (.andZp 0xFF) = .and ∧ Instr.mnemonic (.eorZp 0xFF) = .eor ∧ Instr.mnemonic (.oraZp 0xFF) = .ora ∧
    Instr.form (.andZp 0xFF) = .data (.mem (.zp 0xFF)) ∧ Instr.WellFormed State.reset.m8 State.reset.x8 (.andZp 0xFF) = true ∧
    State.reset.m8 = true ∧ wide.m8 = false := by decide

theorem witness_CompareInstructions :
    Instr.mnemonic (.cmpZp 0xFF) = .cmp ∧ Instr.mnemonic (.cpxZp 0xFF) = .cpx ∧ Instr.mnemonic (.cpyZp 0xFF) = .cpy ∧
    Instr.form (.cmpZp 0xFF) = .data (.mem (.zp 0xFF)) ∧ Instr.WellFormed wide.m8 wide.x8 (.cmpZp 0xFF) = true := by decide

theorem witness_BitTest :
    Instr.mnemonic (.bitImm (.b8 0xC0)) = .bit ∧ Instr.form (.bitImm (.b8 0xC0)) = .data (.imm (.b8 0xC0)) ∧
    Instr.WellFormed State.reset.m8 State.reset.x8 (.bitImm (.b8 0xC0)) = true ∧
    State.reset.cfg.flagProfile = .source ∧ { State.reset with cfg := { flagProfile := .hardware } }.cfg.flagProfile = .hardware := by decide

theorem witness_TestAndModifyBits_8_bits :
    Instr.mnemonic (.trbZp 0xFF) = .trb ∧ Instr.mnemonic (.tsbZp 0xFF) = .tsb ∧
    Instr.form (.trbZp 0xFF) = .data (.mem (.zp 0xFF)) ∧ Instr.form (.tsbZp 0xFF) = .data (.mem (.zp 0xFF)) ∧
    Memory.wf State.reset.mem = true ∧ State.reset.m8 = true := by decide

theorem witness_TestAndModifyBits_16_bits :
    Instr.mnemonic (.trbAbs 0xFFFF) = .trb ∧ Instr.mnemonic (.tsbAbs 0xFFFF) = .tsb ∧
    Instr.form (.trbAbs 0xFFFF) = .data (.mem (.abs 0xFFFF)) ∧ Instr.form (.tsbAbs 0xFFFF) = .data (.mem (.abs 0xFFFF)) ∧
    Memory.wf wide.mem = true ∧ wide.m8 = false := by decide

theorem witness_ReadModifyWriteOnMemory :
    [Instr.aslZp 0xFF, .lsrZp 0xFF, .rolZp 0xFF, .rorZp 0xFF, .incZp 0xFF, .decZp 0xFF].all
      (fun i => [.asl, .lsr, .rol, .ror, .inc, .dec].contains i.mnemonic && i.form == .data (.mem (.zp 0xFF))) = true ∧
    Memory.wf State.reset.mem = true ∧ State.reset.m8 = true ∧ Memory.wf wide.mem = true ∧ wide.m8 = false := by decide

theorem witness_ReadModifyWriteOnTheAccumulator :
    [Instr.aslAcc, .lsrAcc, .rolAcc, .rorAcc, .incAcc, .decAcc].all
      (fun i => [.asl, .lsr, .rol, .ror, .inc, .dec].contains i.mnemonic && i.form == .acc) = true ∧
    State.reset.m8 = true ∧ wide.m8 = false := by decide

theorem witness_SubroutineCalls :
    Memory.wf State.reset.mem = true ∧ Memory.wf { wide with sp := 0 }.mem = true := by decide

theorem witness_CallsAndReturnsPair :
    State.reset.Inv ∧ (∃ t, exec (.jsrAbs 0xFFFF) State.reset = .next t) ∧
    (∃ t, exec (.jsrAbsXInd 0xFFFF) State.reset = .next t) ∧ ∃ t, exec (.jsrLong 0xFFFFFF) State.reset = .next t := ⟨by decide, ⟨_, rfl⟩, ⟨_, rfl⟩, ⟨_, rfl⟩⟩

theorem witness_EffectiveAddressPushes :
    Memory.wf { State.reset with sp := 0x0100 }.mem = true := by decide

theorem witness_RegisterPushes :
    Memory.wf State.reset.mem = true ∧ State.reset.m8 = true ∧ State.reset.x8 = true ∧
    Memory.wf wide.mem = true ∧ wide.m8 = false ∧ wide.x8 = false := by decide

theorem witness_RegisterPulls :
    State.reset.m8 = true ∧ State.reset.x8 = true ∧ wide.m8 = false ∧ wide.x8 = false := by decide

theorem witness_BankDirectAndStatusPulls :
    (∃ t, exec .plp State.reset = .next t ∧ t.flag .x = true) ∧ ∃ t, exec .plp wide = .next t ∧ t.flag .x = false := ⟨⟨_, rfl, rfl⟩, ⟨_, rfl, rfl⟩⟩

theorem witness_TransfersByDestinationWidth :
    State.reset.Inv ∧ State.reset.m8 = true ∧ State.reset.x8 = true ∧ wide.Inv ∧ wide.m8 = false ∧ wide.x8 = false := by decide

theorem witness_RepAndSepWriteSelectedFlags :
    (∃ t, exec (.rep 0x10) (start false 0x10) = .next t ∧ t.flag .x = false) ∧
    (∃ t, exec (.rep 0x10) State.reset = .next t ∧ t.flag .x = true) ∧
    (∃ t, exec (.sep 0x10) wide = .next t ∧ t.flag .x = true) ∧ ∃ t, exec (.sep 0xEF) wide = .next t ∧ t.flag .x = false := ⟨⟨_, rfl, rfl⟩, ⟨_, rfl, rfl⟩, ⟨_, rfl, rfl⟩, ⟨_, rfl, rfl⟩⟩

theorem witness_XceExchangesCarryAndEmulation :
    (start false 0x01).flag .c = true ∧ State.reset.flag .c = false := by decide

theorem witness_BlockMoveMovesOneByte :
    Memory.wf wide.mem = true ∧ wide.a = 0 ∧ Memory.wf { wide with a := 1 }.mem = true ∧ { wide with a := 1 }.a ≠ 0 ∧
    (Instr.mvn 0x7F 0x7E = .mvn 0x7F 0x7E ∧ (1 : BitVec wide.wx.bits) = 1) ∧
    (Instr.mvp 0x7F 0x7E = .mvp 0x7F 0x7E ∧ (-1 : BitVec wide.wx.bits) = -1) := by decide

theorem witness_BlockMoveCopiesTheWholeBlock_8_bit_index :
    let s := { State.reset with a := 0xFF }
    s.Inv ∧ (0x7F : Byte) ≠ 0x7E ∧ s.a.toNat + 1 ≤ 2 ^ s.wx.bits ∧ ¬ s.a.toNat + 2 ≤ 2 ^ s.wx.bits := by decide

theorem witness_BlockMoveCopiesTheWholeBlock_16_bit_index :
    let s := { wide with a := 0xFFFF }
    s.Inv ∧ (0x7F : Byte) ≠ 0x7E ∧ s.a.toNat + 1 ≤ 2 ^ s.wx.bits := by decide

theorem witness_VectorsAndStackedStatus :
    wide.e = false ∧ State.reset.e = true := by decide

theorem witness_BrkAndCopEnterTheirTraps :
    Memory.wf State.reset.mem = true ∧ State.reset.e = true ∧ Memory.wf wide.mem = true ∧ wide.e = false := by decide

theorem witness_RtiReturnsFromATrap :
    (∃ t, exec .rti State.reset = .next t ∧ State.reset.e = true ∧ t.flag .x = true) ∧
    ∃ t, exec .rti wide = .next t ∧ wide.e = false ∧ t.flag .x = false := ⟨⟨_, rfl, rfl, rfl⟩, ⟨_, rfl, rfl, rfl⟩⟩

theorem witness_RtiUndoesASoftwareTrap :
    State.reset.Inv ∧ (∃ t, exec (.brk 0xFF) State.reset = .next t) ∧
    { wide with pbr := 0x12 }.Inv ∧ ∃ t, exec (.cop 0xFF) { wide with pbr := 0x12 } = .next t := ⟨by decide, ⟨_, rfl⟩, by decide, ⟨_, rfl⟩⟩

theorem witness_InterruptsAreTakenBetweenInstructions_nmi :
    let s := { State.reset with nmiPending := true, irqLine := true, run := .waiting }
    Memory.wf s.mem = true ∧ s.resetLine = false ∧ s.run ≠ .stopped ∧ s.cfg.abortAsserted = false ∧
    s.nmiPending = true := by decide

theorem witness_InterruptsAreTakenBetweenInstructions_irq :
    let s := { wide with irqLine := true }
    Memory.wf s.mem = true ∧ s.resetLine = false ∧ s.run ≠ .stopped ∧ s.abortLine = false ∧ s.nmiPending = false ∧
    s.irqLine = true ∧ s.flag .i = false := by decide

theorem witness_WaitingStoppedAndAbort_waiting :
    let s := { State.reset with irqLine := true, run := .waiting }
    s.resetLine = false ∧ s.run = .waiting ∧ s.nmiPending = false ∧ s.cfg.abortAsserted = false ∧
    s.irqLine = true ∧ s.flag .i = true ∧ { s with irqLine := false }.irqLine = false := by decide

theorem witness_WaitingStoppedAndAbort_stopped :
    let s := { State.reset with nmiPending := true, run := .stopped }
    s.resetLine = false ∧ s.run = .stopped := by decide

theorem witness_WaitingStoppedAndAbort_abort :
    let s := { State.reset with abortLine := true, nmiPending := true, cfg := { abortAsserted := true } }
    Memory.wf s.mem = true ∧ s.cfg.abortAsserted = true ∧ s.resetLine = false ∧
    s.run ≠ .stopped ∧ s.abortLine = true := by decide

theorem witness_RegistersHaveOnlyTheirWriters :
    (∃ t, exec .xce State.reset = .next t ∧ t.e ≠ State.reset.e) ∧
    (∃ t, exec (.jmpLong 0x120000) State.reset = .next t ∧ t.pbr ≠ State.reset.pbr) ∧
    (∃ t, exec (.mvn 0x12 0x00) State.reset = .next t ∧ t.dbr ≠ State.reset.dbr ∧ t.a ≠ State.reset.a ∧
      t.x ≠ State.reset.x ∧ t.y ≠ State.reset.y) ∧
    (∃ t, exec .tcd { State.reset with a := 1 } = .next t ∧ t.d ≠ State.reset.d) ∧
    ∃ t, exec .pha State.reset = .next t ∧ t.sp ≠ State.reset.sp := 
  ⟨⟨_, rfl, by decide⟩, ⟨_, rfl, by decide⟩, ⟨_, rfl, by decide, by decide, by decide, by decide⟩, ⟨_, rfl, by decide⟩,
    ⟨_, rfl, by decide⟩⟩

theorem witness_FlagsHaveOnlyTheirWriters :
    (∃ t, exec (.sep 0xFF) wide = .next t ∧ t.flag .n ≠ wide.flag .n ∧ t.flag .v ≠ wide.flag .v ∧
      t.flag .m ≠ wide.flag .m ∧ t.flag .x ≠ wide.flag .x ∧ t.flag .d ≠ wide.flag .d ∧ t.flag .i ≠ wide.flag .i ∧
      t.flag .z ≠ wide.flag .z ∧ t.flag .c ≠ wide.flag .c) := 
  ⟨_, rfl, by decide, by decide, by decide, by decide, by decide, by decide, by decide, by decide⟩

theorem witness_OnlyStoringInstructionsChangeMemory :
    ∃ t, exec (.staZp 0x10) { State.reset with a := 1 } = .next t ∧ ¬ memoryKept { State.reset with a := 1 } t := 
  ⟨_, rfl, fun h => absurd (h 0x10) (by decide)⟩

theorem witness_SequentialInstructionsAdvanceByTheirLength :
    Instr.sequential .nop = true ∧ ∃ t, exec .nop { State.reset with pc := 0xFFFF } = .next t := ⟨by decide, _, rfl⟩
end

section
/-! What each of the 256 instructions does, by its mnemonic and operand form, and which fields of the state it can
change (10_state.md R38, the access matrix). -/

namespace Sys2Proof.Machine

/-! ### The meaning of an instruction from its mnemonic, opcode and operand form -/

/-- An operation on a data operand, at the row's opcode. -/
def onData (f : Byte → DataOperand → State → State) (op : Byte) (fm : Form) (s : State) : State :=
  match fm with
  | .data o => f op o s
  | _ => s

/-- An operation on a memory operand, at the row's opcode. -/
def onMem (f : Byte → Mode → State → State) (op : Byte) (fm : Form) (s : State) : State :=
  match fm with
  | .data (.mem m) => f op m s
  | _ => s

/-- An operation on the byte of the form `#$xx`. -/
def onImm8 (f : Byte → State → State) (fm : Form) (s : State) : State :=
  match fm with
  | .imm8 b => f b s
  | _ => s

/-- BIT in its two kinds of form (42_alu.md R183). -/
def bitTest (op : Byte) (fm : Form) (s : State) : State :=
  match fm with
  | .data (.imm v) => bitImmediate op v s
  | .data (.mem m) => bitMemory op m s
  | _ => s

/-- A read-modify-write operation, on the accumulator or on memory (43_shift_incdec.md R200). -/
def modify (f : Modify) (op : Byte) (fm : Form) (s : State) : State :=
  match fm with
  | .acc => modifyAcc f s
  | .data (.mem m) => modifyMemory f op m s
  | _ => s

/-- A branch, short or long (44_branch_jump.md R220, R228). -/
def branchOn (taken : Bool) (fm : Form) (s : State) : State :=
  match fm with
  | .rel r => branchIf taken r s
  | .rell w => jump (branchTarget (s.pc + 3) w) s
  | _ => s

/-- JMP in its five forms (44_branch_jump.md R231, R236). -/
def jumpTo (fm : Form) (s : State) : State :=
  match fm with
  | .data (.mem (.abs w)) => jump w s
  | .data (.mem (.long a)) => jumpLong a s
  | .absInd w => jump (s.mem.read16 (pointerEA w)) s
  | .absXInd w => jump (s.mem.read16 (tableEA w s)) s
  | .absIndLong w => jumpLong (s.mem.read24 (pointerEA w)) s
  | _ => s

/-- JSR in its three forms (44_branch_jump.md R232, R233). -/
def callTo (fm : Form) (s : State) : State :=
  match fm with
  | .data (.mem (.abs w)) => callAbs w s
  | .data (.mem (.long a)) => callLong a s
  | .absXInd w => callTable w s
  | _ => s

/-- PEA in its three forms (45_stack.md R251 to R253). -/
def pushOperand (op : Byte) (fm : Form) (s : State) : State :=
  match fm with
  | .imm16 w => s.push16 w
  | .data (.mem (.zpInd b)) => pushIndirect op b s
  | .rell w => pushRelative w s
  | _ => s

/-- A block move of one byte (48_block_move.md R320). -/
def blockMove (delta : Word) (fm : Form) (s : State) : State :=
  match fm with
  | .blk dst src => blockStep delta dst src s
  | _ => s

/-- What the instructions of a mnemonic do apart from going on to the next one in sequence. A form that the mnemonic
has no row for leaves the state alone. `exec_eq_effect` ties it to `exec`. -/
def mnemonicEffect (mn : Mnemonic) (op : Byte) (fm : Form) (s : State) : State :=
  match mn with
  | .adc => onData adc op fm s
  | .sbc => onData sbc op fm s
  | .and => onData (logic andOf) op fm s
  | .eor => onData (logic eorOf) op fm s
  | .ora => onData (logic oraOf) op fm s
  | .cmp => onData cmp op fm s
  | .cpx => onData cpx op fm s
  | .cpy => onData cpy op fm s
  | .bit => bitTest op fm s
  | .trb => onMem (testAndModify resetBits) op fm s
  | .tsb => onMem (testAndModify setBits) op fm s
  | .lda => onData loadA op fm s
  | .ldx => onData loadX op fm s
  | .ldy => onData loadY op fm s
  | .sta => onMem storeA op fm s
  | .stx => onMem storeX op fm s
  | .sty => onMem storeY op fm s
  | .stz => onMem storeZ op fm s
  | .asl => modify aslOf op fm s
  | .lsr => modify lsrOf op fm s
  | .rol => modify rolOf op fm s
  | .ror => modify rorOf op fm s
  | .inc => modify incOf op fm s
  | .dec => modify decOf op fm s
  | .inx => stepX incOf s
  | .dex => stepX decOf s
  | .iny => stepY incOf s
  | .dey => stepY decOf s
  | .bcc => branchOn (!s.flag .c) fm s
  | .bcs => branchOn (s.flag .c) fm s
  | .beq => branchOn (s.flag .z) fm s
  | .bmi => branchOn (s.flag .n) fm s
  | .bne => branchOn (!s.flag .z) fm s
  | .bpl => branchOn (!s.flag .n) fm s
  | .bra => branchOn true fm s
  | .bvc => branchOn (!s.flag .v) fm s
  | .bvs => branchOn (s.flag .v) fm s
  | .jmp => jumpTo fm s
  | .jsr => callTo fm s
  | .rts => returnNear s
  | .rtl => returnLong s
  | .rti => s.returnFromTrap
  | .brk => s.trapEntry .brk (s.pc + 2)
  | .cop => s.trapEntry .cop (s.pc + 2)
  | .mvn => blockMove 1 fm s
  | .mvp => blockMove (-1) fm s
  | .pea => pushOperand op fm s
  | .pha => s.pushW s.wm (s.acc s.wm)
  | .phb => s.push8 s.dbr
  | .phd => s.push16 s.d
  | .phk => s.push8 s.pbr
  | .php => s.push8 s.p
  | .phx => s.pushW s.wx (s.xLow s.wx)
  | .phy => s.pushW s.wx (s.yLow s.wx)
  | .pla => pullA s
  | .plx => pullX s
  | .ply => pullY s
  | .plb => pullDbr s
  | .pld => pullD s
  | .plp => s.pull8.2.writeP s.pull8.1
  | .rep => onImm8 (fun b s => s.writeP (s.p &&& ~~~b)) fm s
  | .sep => onImm8 (fun b s => s.writeP (s.p ||| b)) fm s
  | .clc => s.setFlag .c false
  | .cld => s.setFlag .d false
  | .cli => s.setFlag .i false
  | .clv => s.setFlag .v false
  | .sec => s.setFlag .c true
  | .sed => s.setFlag .d true
  | .sei => s.setFlag .i true
  | .xce => exchangeCE s
  | .tax => transferToX s.a s
  | .tsx => transferToX s.sp s
  | .tay => transferToY s.a s
  | .txy => transferXY s
  | .tyx => transferYX s
  | .txa => transferToA s.x s
  | .tya => transferToA s.y s
  | .tdc => transferToC s.d s
  | .tsc => transferToC s.sp s
  | .tcs => transferToS s.a s
  | .txs => transferToS s.x s
  | .tcd => transferToD s
  | .xba => exchangeHalves s
  | .stp => { s with run := .stopped }
  | .wai => { s with run := .waiting }
  | .wdm => s.advance (wdmBytes s.cfg)
  | .nop => s

/-- The effect of an instruction: that of its mnemonic at its opcode and form. -/
def effectOf (i : Instr) (s : State) : State := mnemonicEffect i.mnemonic i.opcode i.form s

/-- What `exec` answers, for all 256 rows at once: the effect of the instruction, and `PC` moved on by its length where
the instruction is sequential. -/
theorem exec_eq_effect (i : Instr) (s : State) :
    exec i s = .next (if i.sequential then (effectOf i s).advance i.length else effectOf i s) := by
  cases i <;> rfl

theorem eq_of_exec_next {i : Instr} {s t : State} (h : exec i s = .next t) :
    t = if i.sequential then (effectOf i s).advance i.length else effectOf i s := by
  rw [exec_eq_effect] at h
  exact (Host.Outcome.next.inj h).symm
end Sys2Proof.Machine
end

section
/-! Every instruction and every step keeps the machine's invariant. -/

namespace Sys2Proof.Machine

/-! ### Facts about the operations taken from a form

Each says: what holds of the state itself and of the operation at every operand holds of the operation at any form. -/

section
variable {P : State → Prop} {s : State} {op : Byte} (fm : Form)

theorem onData_of {f : Byte → DataOperand → State → State} (h : P s) (hf : ∀ o, P (f op o s)) :
    P (onData f op fm s) := by
  unfold onData; split
  · exact hf _
  · exact h

theorem onMem_of {f : Byte → Mode → State → State} (h : P s) (hf : ∀ m, P (f op m s)) : P (onMem f op fm s) := by
  unfold onMem; split
  · exact hf _
  · exact h

theorem onImm8_of {f : Byte → State → State} (h : P s) (hf : ∀ b, P (f b s)) : P (onImm8 f fm s) := by
  unfold onImm8; split
  · exact hf _
  · exact h

theorem bitTest_of (h : P s) (hi : ∀ v, P (bitImmediate op v s)) (hm : ∀ m, P (bitMemory op m s)) :
    P (bitTest op fm s) := by
  unfold bitTest; split
  · exact hi _
  · exact hm _
  · exact h

theorem blockMove_of {delta : Word} (h : P s) (hb : ∀ dst src, P (blockStep delta dst src s)) :
    P (blockMove delta fm s) := by
  unfold blockMove; split
  · exact hb _ _
  · exact h

theorem branchOn_of {taken : Bool} (h : P s) (hb : ∀ r, P (branchIf taken r s)) (hj : ∀ w, P (jump w s)) :
    P (branchOn taken fm s) := by
  unfold branchOn; split
  · exact hb _
  · exact hj _
  · exact h

theorem pushOperand_of (h : P s) (hp : ∀ w, P (s.push16 w)) : P (pushOperand op fm s) := by
  unfold pushOperand; split
  · exact hp _
  · exact hp _
  · exact hp _
  · exact h

end

/-! ### Every step keeps the invariant -/

section
variable {s : State} (h : s.Inv)
include h

theorem inv_modify (f : Modify) (op : Byte) (fm : Form) : (modify f op fm s).Inv := by
  unfold modify; split
  · exact inv_modifyAcc h f
  · exact inv_modifyMemory h f _ _
  · exact h

theorem inv_branchOn (taken : Bool) (fm : Form) : (branchOn taken fm s).Inv :=
  branchOn_of fm h (inv_branchIf h taken) (inv_jump h)

theorem inv_jumpTo (fm : Form) : (jumpTo fm s).Inv := by
  unfold jumpTo; split
  · exact inv_jump h _
  · exact inv_jumpLong h _
  · exact inv_jump h _
  · exact inv_jump h _
  · exact inv_jumpLong h _
  · exact h

theorem inv_callTo (fm : Form) : (callTo fm s).Inv := by
  unfold callTo; split
  · exact inv_callAbs h _
  · exact inv_callLong h _
  · exact inv_callTable h _
  · exact h

/-- The effect of every mnemonic keeps the invariant: one shared operation each. -/
theorem inv_mnemonicEffect (mn : Mnemonic) (op : Byte) (fm : Form) : (mnemonicEffect mn op fm s).Inv :=
  match mn with
  | .adc => onData_of fm h (inv_adc h op)
  | .sbc => onData_of fm h (inv_sbc h op)
  | .and | .eor | .ora => onData_of fm h (inv_logic h _ op)
  | .cmp => onData_of fm h (inv_cmp h op)
  | .cpx => onData_of fm h (inv_cpx h op)
  | .cpy => onData_of fm h (inv_cpy h op)
  | .bit => bitTest_of fm h (inv_bitImmediate h op) (inv_bitMemory h op)
  | .trb | .tsb => onMem_of fm h (inv_testAndModify h _ op)
  | .lda => onData_of fm h (inv_loadA h op)
  | .ldx => onData_of fm h (inv_loadX h op)
  | .ldy => onData_of fm h (inv_loadY h op)
  | .sta => onMem_of fm h (inv_storeA h op)
  | .stx => onMem_of fm h (inv_storeX h op)
  | .sty => onMem_of fm h (inv_storeY h op)
  | .stz => onMem_of fm h (inv_storeZ h op)
  | .asl | .lsr | .rol | .ror | .inc | .dec => inv_modify h _ op fm
  | .inx | .dex => inv_stepX h _
  | .iny | .dey => inv_stepY h _
  | .bcc | .bcs | .beq | .bmi | .bne | .bpl | .bra | .bvc | .bvs => inv_branchOn h _ fm
  | .jmp => inv_jumpTo h fm
  | .jsr => inv_callTo h fm
  | .rts => inv_returnNear h
  | .rtl => inv_returnLong h
  | .rti => inv_returnFromTrap h
  | .brk | .cop => inv_trapEntry h _ _
  | .mvn | .mvp => blockMove_of fm h (inv_blockStep h _)
  | .pea => pushOperand_of fm h (inv_push16 h)
  | .pha | .phx | .phy => inv_pushW h _ _
  | .phb | .phk | .php => inv_push8 h _
  | .phd => inv_push16 h _
  | .pla => inv_pullA h
  | .plx => inv_pullX h
  | .ply => inv_pullY h
  | .plb => inv_pullDbr h
  | .pld => inv_pullD h
  | .plp => inv_writeP (inv_pull8 h) _
  | .rep | .sep => onImm8_of fm h fun _ => inv_writeP h _
  | .clc | .cld | .cli | .clv | .sec | .sed | .sei => inv_setFlag h _ (by decide) (by decide)
  | .xce => inv_exchangeCE h
  | .tax | .tsx => inv_transferToX h _
  | .tay => inv_transferToY h _
  | .txy => inv_transferXY h
  | .tyx => inv_transferYX h
  | .txa | .tya => inv_transferToA h _
  | .tdc | .tsc => inv_transferToC h _
  | .tcs | .txs => inv_transferToS h _
  | .tcd => inv_transferToD h
  | .xba => inv_exchangeHalves h
  | .stp | .wai => inv_run h _
  | .wdm => inv_advance h _
  | .nop => h

theorem inv_exec {i : Instr} {t : State} (he : exec i s = .next t) : t.Inv := by
  have hi : (effectOf i s).Inv := inv_mnemonicEffect h _ _ _
  rw [eq_of_exec_next he]
  split
  · exact inv_advance hi _
  · exact hi

theorem inv_step {t : State} (hs : step s = .next t) : t.Inv := by
  unfold step at hs
  split at hs
  case h_1 u hb =>
    cases hs
    exact inv_boundary h hb
  case h_2 =>
    split at hs
    · exact inv_exec h hs
    · cases hs

end

end Sys2Proof.Machine

/-- Settles O10: a step is what the boundary decides or one instruction, and both keep the invariant. -/
theorem everyStepKeepsTheInvariant : Obligations.EveryStepKeepsTheInvariant :=
  fun _ _ h hs => Sys2Proof.Machine.inv_step h hs

/-- Settles O9. -/
theorem invariantHoldsAtReset : Obligations.InvariantHoldsAtReset := by
  unfold Obligations.InvariantHoldsAtReset
  decide

/-- Settles O3. -/
theorem resetStateHoldsTheResetValues : Obligations.ResetStateHoldsTheResetValues := by
  unfold Obligations.ResetStateHoldsTheResetValues
  decide
end

section
/-! What each shared operation can change: the frame of every operation as a list of fields, put together from the
frames of the updates it is made of. -/

namespace Sys2Proof.Machine

/-! ### The fields of the state, and what leaves them alone -/

/-- A part of the state that an instruction can change or keep: a register, one flag of `P`, memory, or a field of the
model's own. -/
inductive StateField where
  | a | x | y | d | sp | pc | dbr | pbr | e | run | mem | draws | cfg
  | nmiPending | irqLine | abortLine | resetLine
  | flag (f : Flag)
deriving DecidableEq

/-- The field is the same in both states. -/
def StateField.Same (r : StateField) (s t : State) : Prop :=
  match r with
  | .a => t.a = s.a
  | .x => t.x = s.x
  | .y => t.y = s.y
  | .d => t.d = s.d
  | .sp => t.sp = s.sp
  | .pc => t.pc = s.pc
  | .dbr => t.dbr = s.dbr
  | .pbr => t.pbr = s.pbr
  | .e => t.e = s.e
  | .run => t.run = s.run
  | .mem => t.mem = s.mem
  | .draws => t.draws = s.draws
  | .cfg => t.cfg = s.cfg
  | .nmiPending => t.nmiPending = s.nmiPending
  | .irqLine => t.irqLine = s.irqLine
  | .abortLine => t.abortLine = s.abortLine
  | .resetLine => t.resetLine = s.resetLine
  | .flag f => t.flag f = s.flag f

/-- Nothing but the fields `ws` differs between the two states. -/
def ChangesOnly (ws : List StateField) (s t : State) : Prop := ∀ r, r ∉ ws → r.Same s t

theorem StateField.Same.refl {r : StateField} {s : State} : r.Same s s := by cases r <;> exact Eq.refl _

theorem StateField.Same.trans {r : StateField} {s t u : State} (h : r.Same s t) (h' : r.Same t u) : r.Same s u := by
  cases r <;> exact Eq.trans h' h

theorem ChangesOnly.refl (ws : List StateField) (s : State) : ChangesOnly ws s s := fun _ _ => .refl

theorem ChangesOnly.trans {ws ws' : List StateField} {s t u : State} (h : ChangesOnly ws s t)
    (h' : ChangesOnly ws' t u) : ChangesOnly (ws ++ ws') s u := fun r hr =>
  (h r fun hm => hr (List.mem_append_left _ hm)).trans (h' r fun hm => hr (List.mem_append_right _ hm))

theorem ChangesOnly.mono {ws ws' : List StateField} {s t : State} (h : ChangesOnly ws s t) (hw : ws ⊆ ws') :
    ChangesOnly ws' s t := fun r hr => h r fun hm => hr (hw hm)

/-- A written field outside the list is a contradiction to its being the same. -/
theorem ChangesOnly.mem_of_not_same {ws : List StateField} {s t : State} (h : ChangesOnly ws s t) {r : StateField}
    (hr : ¬ r.Same s t) : r ∈ ws := by
  by_contra hm
  exact hr (h r hm)

/-! ### The shared operations -/

/-- N and Z. -/
abbrev nzFields : List StateField := [.flag .n, .flag .z]

/-- The eight flags. -/
abbrev flagFields : List StateField :=
  [.flag .n, .flag .v, .flag .m, .flag .x, .flag .d, .flag .i, .flag .z, .flag .c]

/-- C, where a read-modify-write operation gives one. -/
abbrev carryFields : Option Bool → List StateField
  | some _ => [.flag .c]
  | none => []

/-- What `profileNZ` changes under a profile (10_state.md R36). -/
abbrev profileFields : FlagProfile → List StateField
  | .source => []
  | .hardware => nzFields

/-- What `testedFlags` changes under a profile (10_state.md R36; 42_alu.md R190). -/
abbrev testedFields : FlagProfile → List StateField
  | .source => [.flag .n, .flag .v, .draws]
  | .hardware => []

/-- What a push changes (20_memory.md R75). -/
abbrev pushFields : List StateField := [.mem, .sp]

/-- What an ADC or SBC changes (42_alu.md R181, R192). -/
abbrev arithFields : List StateField := [.a, .draws, .flag .n, .flag .v, .flag .z, .flag .c]

/-- What `WriteP` changes (10_state.md R35). -/
abbrev writePFields : List StateField := flagFields ++ [.x, .y]

/-- What XCE changes (47_flags_status.md R309). -/
abbrev exchangeFields : List StateField := [.flag .c, .e, .flag .m, .flag .x, .x, .y, .sp]

/-- What a trap entry changes (60_exceptions.md R352, R353). -/
abbrev trapFields : List StateField := [.mem, .sp, .flag .i, .flag .d, .pbr, .pc]

/-- What RTI changes (49_system.md R333). -/
abbrev trapReturnFields : List StateField := .sp :: (writePFields ++ [.pc, .pbr])

/-- What one byte of a block move changes (48_block_move.md R320). -/
abbrev blockFields : List StateField := [.mem, .x, .y, .a, .dbr, .pc]

section
variable (s : State)

theorem changes_a (v : Word) : ChangesOnly [.a] s { s with a := v } := by
  intro r hr
  cases r with
  | a => exact absurd List.mem_cons_self hr
  | _ => exact rfl

theorem changes_x (v : Word) : ChangesOnly [.x] s { s with x := v } := by
  intro r hr
  cases r with
  | x => exact absurd List.mem_cons_self hr
  | _ => exact rfl

theorem changes_y (v : Word) : ChangesOnly [.y] s { s with y := v } := by
  intro r hr
  cases r with
  | y => exact absurd List.mem_cons_self hr
  | _ => exact rfl

theorem changes_d (v : Word) : ChangesOnly [.d] s { s with d := v } := by
  intro r hr
  cases r with
  | d => exact absurd List.mem_cons_self hr
  | _ => exact rfl

theorem changes_sp (v : Word) : ChangesOnly [.sp] s { s with sp := v } := by
  intro r hr
  cases r with
  | sp => exact absurd List.mem_cons_self hr
  | _ => exact rfl

theorem changes_pc (v : Word) : ChangesOnly [.pc] s { s with pc := v } := by
  intro r hr
  cases r with
  | pc => exact absurd List.mem_cons_self hr
  | _ => exact rfl

theorem changes_dbr (v : Byte) : ChangesOnly [.dbr] s { s with dbr := v } := by
  intro r hr
  cases r with
  | dbr => exact absurd List.mem_cons_self hr
  | _ => exact rfl

theorem changes_pbr (v : Byte) : ChangesOnly [.pbr] s { s with pbr := v } := by
  intro r hr
  cases r with
  | pbr => exact absurd List.mem_cons_self hr
  | _ => exact rfl

theorem changes_e (b : Bool) : ChangesOnly [.e] s { s with e := b } := by
  intro r hr
  cases r with
  | e => exact absurd List.mem_cons_self hr
  | _ => exact rfl

theorem changes_run (v : RunState) : ChangesOnly [.run] s { s with run := v } := by
  intro r hr
  cases r with
  | run => exact absurd List.mem_cons_self hr
  | _ => exact rfl

theorem changes_mem (m : Memory) : ChangesOnly [.mem] s { s with mem := m } := by
  intro r hr
  cases r with
  | mem => exact absurd List.mem_cons_self hr
  | _ => exact rfl

theorem changes_draws (n : Nat) : ChangesOnly [.draws] s { s with draws := n } := by
  intro r hr
  cases r with
  | draws => exact absurd List.mem_cons_self hr
  | _ => exact rfl

theorem changes_p (v : Byte) : ChangesOnly flagFields s { s with p := v } := by
  intro r hr
  cases r with
  | flag f => exact absurd (by cases f <;> simp) hr
  | _ => exact rfl

theorem changes_setFlag (f : Flag) (b : Bool) : ChangesOnly [.flag f] s (s.setFlag f b) := by
  intro r hr
  cases r with
  | flag g =>
    have hg : g ≠ f := fun e => hr (by simp [e])
    simp [StateField.Same, hg]
  | _ => exact rfl

theorem changes_setNZ {n : Nat} (v : BitVec n) : ChangesOnly nzFields s (s.setNZ v) :=
  (changes_setFlag s .n _).trans (changes_setFlag _ .z _)

theorem changes_setFlagFree (f : Flag) : ChangesOnly [.draws, .flag f] s (s.setFlagFree f) :=
  (changes_draws s _).trans (changes_setFlag _ f _)

theorem changes_setCarry (c : Option Bool) {cs : List StateField} (hc : carryFields c = cs) :
    ChangesOnly cs s (s.setCarry c) := by
  subst hc
  cases c with
  | some _ => exact changes_setFlag s .c _
  | none => exact .refl _ s

theorem changes_setAcc (w : Width) (v : BitVec w.bits) : ChangesOnly [.a] s (s.setAcc w v) := by
  cases w <;> exact changes_a s _

theorem changes_setX {n : Nat} (v : BitVec n) : ChangesOnly [.x] s (s.setX v) := changes_x s _

theorem changes_setY {n : Nat} (v : BitVec n) : ChangesOnly [.y] s (s.setY v) := changes_y s _

theorem changes_advance (k : Nat) : ChangesOnly [.pc] s (s.advance k) := changes_pc s _

theorem changes_storeOperand (w : Width) (op : Byte) (m : Mode) (v : BitVec w.bits) :
    ChangesOnly [.mem] s (storeOperand w op m v s) := changes_mem s _

theorem changes_push8 (v : Byte) : ChangesOnly pushFields s (s.push8 v) :=
  (changes_mem s (s.mem.write (addr 0 s.sp) v)).trans (changes_sp _ (pushedSp s.e s.sp))

theorem changes_push16 (v : Word) : ChangesOnly pushFields s (s.push16 v) :=
  ((changes_push8 s _).trans (changes_push8 _ _)).mono (by decide)

theorem changes_pushW (w : Width) (v : BitVec w.bits) : ChangesOnly pushFields s (s.pushW w v) := by
  cases w
  · exact changes_push8 s v
  · exact changes_push16 s v

theorem changes_pull8 : ChangesOnly [.sp] s s.pull8.2 := changes_sp s _

theorem changes_pull16 : ChangesOnly [.sp] s s.pull16.2 := changes_sp s _

theorem changes_pullW (w : Width) : ChangesOnly [.sp] s (s.pullW w).2 := by
  cases w <;> exact changes_sp s _

theorem changes_clearIndexHigh : ChangesOnly [.x, .y] s s.clearIndexHigh :=
  (changes_x s (word 0 (lo s.x))).trans (changes_y _ (word 0 (lo s.y)))

theorem changes_writeP (v : Byte) : ChangesOnly writePFields s (s.writeP v) := by
  unfold State.writeP
  dsimp only
  split
  · exact (changes_p s _).trans (changes_clearIndexHigh _)
  · exact (changes_p s _).mono (List.subset_append_left _ _)

theorem changes_profileNZ {n : Nat} (v : BitVec n) {q : FlagProfile} (hq : s.cfg.flagProfile = q) :
    ChangesOnly (profileFields q) s (profileNZ v s) := by
  unfold profileNZ
  cases q <;> rw [hq]
  · exact .refl _ s
  · exact changes_setNZ s v

theorem changes_testedFlags {q : FlagProfile} (hq : s.cfg.flagProfile = q) :
    ChangesOnly (testedFields q) s (testedFlags s) := by
  unfold testedFlags
  cases q <;> rw [hq]
  · exact ((changes_setFlagFree s .n).trans (changes_setFlagFree _ .v)).mono (by decide)
  · exact .refl _ s

theorem changes_exchangeCE : ChangesOnly exchangeFields s (exchangeCE s) := by
  have hce : ChangesOnly [.flag .c, .e] s { s.setFlag .c s.e with e := s.flag .c } :=
    (changes_setFlag s .c _).trans (changes_e _ _)
  unfold exchangeCE
  dsimp only
  split
  · exact hce.trans <| (changes_setFlag _ .m true).trans <| (changes_setFlag _ .x true).trans <|
      (changes_clearIndexHigh _).trans (changes_sp _ _)
  · exact hce.mono (by decide)

theorem changes_pushFrame (k : Trap) (r : Word) : ChangesOnly pushFields s (s.pushFrame k r) := by
  unfold State.pushFrame
  split
  · exact ((changes_push16 s _).trans (changes_push8 _ _)).mono (by decide)
  · exact (((changes_push8 s _).trans (changes_push16 _ _)).trans (changes_push8 _ _)).mono (by decide)

theorem changes_trapEntry (k : Trap) (r : Word) : ChangesOnly trapFields s (s.trapEntry k r) :=
  (changes_pushFrame s k r).trans <| (changes_setFlag _ .i true).trans <| (changes_setFlag _ .d false).trans <|
    (changes_pbr _ 0).trans (changes_pc _ _)

theorem changes_returnFromTrap : ChangesOnly trapReturnFields s s.returnFromTrap := by
  have hp : ChangesOnly (.sp :: writePFields) s (s.pull8.2.writeP s.pull8.1) :=
    (changes_pull8 s).trans (changes_writeP _ _)
  have hpc := (hp.trans (changes_pull16 _)).trans (changes_pc _ (s.pull8.2.writeP s.pull8.1).pull16.1)
  unfold State.returnFromTrap
  dsimp only
  split
  · exact hpc.mono (by decide)
  · exact ((hpc.trans (changes_pull8 _)).trans (changes_pbr _ _)).mono (by decide)

/-- In emulation mode RTI pulls no `PBR` (49_system.md R333). -/
theorem returnFromTrap_pbr_emulation {s : State} (he : s.e = true) : s.returnFromTrap.pbr = s.pbr := by
  simp [State.returnFromTrap, he]

/-! ### The meanings of the families -/

theorem changes_loadA (op : Byte) (o : DataOperand) : ChangesOnly (.a :: nzFields) s (loadA op o s) :=
  (changes_setAcc s _ _).trans (changes_setNZ _ _)

theorem changes_loadX (op : Byte) (o : DataOperand) : ChangesOnly (.x :: nzFields) s (loadX op o s) :=
  (changes_setX s _).trans (changes_setNZ _ _)

theorem changes_loadY (op : Byte) (o : DataOperand) : ChangesOnly (.y :: nzFields) s (loadY op o s) :=
  (changes_setY s _).trans (changes_setNZ _ _)

theorem changes_setArith (w : Width) (r : Arith w.bits) : ChangesOnly arithFields s (setArith w r s) :=
  ((changes_setFlag s .c _).trans <| (changes_setFlag _ .v _).trans <| (changes_setAcc _ w _).trans
    (changes_setNZ _ _)).mono (by decide)

theorem changes_setDecimal (w : Width) (r : BitVec w.bits × Bool) : ChangesOnly arithFields s (setDecimal w r s) :=
  ((changes_setFlag s .c _).trans <| (changes_setFlagFree _ .v).trans <| (changes_setAcc _ w _).trans
    (changes_setNZ _ _)).mono (by decide)

theorem changes_setUnspecified (w : Width) : ChangesOnly arithFields s (setUnspecified w s) :=
  ((changes_draws s _).trans <| (changes_setAcc _ w _).trans <| (changes_setFlagFree _ .n).trans <|
    (changes_setFlagFree _ .v).trans <| (changes_setFlagFree _ .z).trans (changes_setFlagFree _ .c)).mono (by decide)

theorem changes_decimalOp (g : DecimalDef) (f : DecimalFn) (w : Width) (a m : BitVec w.bits) :
    ChangesOnly arithFields s (decimalOp g f w a m s) := by
  obtain ⟨-, -, h⟩ | ⟨-, -, h⟩ | ⟨-, h⟩ := decimalOp_cases g f w a m s <;> rw [h]
  · exact changes_setDecimal s w _
  · exact changes_setUnspecified s w
  · exact changes_setArith s w _

theorem changes_adc (op : Byte) (o : DataOperand) : ChangesOnly arithFields s (adc op o s) := by
  unfold adc
  dsimp only
  split
  · exact changes_decimalOp s _ _ _ _ _
  · exact changes_setArith s _ _

theorem changes_sbc (op : Byte) (o : DataOperand) : ChangesOnly arithFields s (sbc op o s) := by
  unfold sbc
  dsimp only
  split
  · exact changes_decimalOp s _ _ _ _ _
  · exact changes_setArith s _ _

theorem changes_logic (f : (n : Nat) → BitVec n → BitVec n → BitVec n) (op : Byte) (o : DataOperand) :
    ChangesOnly (.a :: nzFields) s (logic f op o s) := (changes_setAcc s _ _).trans (changes_setNZ _ _)

theorem changes_setCompare {n : Nat} (r m : BitVec n) : ChangesOnly (.flag .c :: nzFields) s (setCompare r m s) :=
  (changes_setFlag s .c _).trans (changes_setNZ _ _)

theorem changes_testZ {n : Nat} (a m : BitVec n) : ChangesOnly [.flag .z] s (testZ a m s) := changes_setFlag s .z _

theorem changes_topBits {n : Nat} (m : BitVec n) : ChangesOnly [.flag .n, .flag .v] s (topBits m s) :=
  (changes_setFlag s .n _).trans (changes_setFlag _ .v _)

theorem changes_bitMemory (op : Byte) (m : Mode) :
    ChangesOnly [.flag .z, .flag .n, .flag .v] s (bitMemory op m s) :=
  (changes_testZ s _ _).trans (changes_topBits _ _)

theorem changes_bitImmediate (op : Byte) (v : Imm) :
    ChangesOnly [.flag .z, .flag .n, .flag .v] s (bitImmediate op v s) := by
  unfold bitImmediate
  dsimp only
  split
  · exact (changes_testZ s _ _).trans (changes_topBits _ _)
  · exact (changes_testZ s _ _).mono (by decide)

theorem changes_testAndModify (f : (n : Nat) → BitVec n → BitVec n → BitVec n) (op : Byte) (m : Mode) :
    ChangesOnly (.mem :: .flag .z :: testedFields s.cfg.flagProfile) s (testAndModify f op m s) :=
  (changes_mem s (s.mem.writeW s.cfg.byteOrder s.wm (effectiveAddress op m s)
    (f s.wm.bits (s.acc s.wm) (s.mem.readW s.wm (effectiveAddress op m s))))).trans <|
    (changes_testZ _ (s.acc s.wm) (s.mem.readW s.wm (effectiveAddress op m s))).trans (changes_testedFlags _ rfl)

theorem changes_modifyAcc (f : Modify) {cs : List StateField} (hf : ∀ n c m, carryFields (f n c m).carry = cs) :
    ChangesOnly (.a :: (cs ++ nzFields)) s (modifyAcc f s) :=
  (changes_setAcc s s.wm (f s.wm.bits (s.flag .c) (s.acc s.wm)).value).trans <|
    (changes_setCarry _ _ (hf _ _ _)).trans (changes_setNZ _ _)

theorem changes_modifyMemory (f : Modify) {cs : List StateField} (hf : ∀ n c m, carryFields (f n c m).carry = cs)
    (op : Byte) (m : Mode) : ChangesOnly (.mem :: (cs ++ nzFields)) s (modifyMemory f op m s) :=
  (changes_mem s (s.mem.writeW s.cfg.byteOrder s.wm (effectiveAddress op m s)
    (f s.wm.bits (s.flag .c) (s.mem.readW s.wm (effectiveAddress op m s))).value)).trans <|
    (changes_setCarry _ _ (hf _ _ _)).trans (changes_setNZ _ _)

theorem changes_stepX (f : Modify) : ChangesOnly (.x :: nzFields) s (stepX f s) :=
  (changes_setX s _).trans (changes_setNZ _ _)

theorem changes_stepY (f : Modify) : ChangesOnly (.y :: nzFields) s (stepY f s) :=
  (changes_setY s _).trans (changes_setNZ _ _)

theorem changes_blockStep (delta : Word) (dst src : Byte) : ChangesOnly blockFields s (blockStep delta dst src s) := by
  intro r hr
  cases r with
  | mem | x | y | a | dbr | pc => exact absurd (by decide) hr
  | _ => exact rfl

theorem changes_branchIf (b : Bool) (rel : Byte) : ChangesOnly [.pc] s (branchIf b rel s) := changes_pc s _

theorem changes_jump (w : Word) : ChangesOnly [.pc] s (jump w s) := changes_pc s _

theorem changes_jumpLong (a : Addr) : ChangesOnly [.pc, .pbr] s (jumpLong a s) :=
  (changes_pc s (offset a)).trans (changes_pbr _ (bank a))

theorem changes_callAbs (w : Word) : ChangesOnly [.mem, .sp, .pc] s (callAbs w s) :=
  (changes_push16 s _).trans (changes_jump _ _)

theorem changes_callTable (w : Word) : ChangesOnly [.mem, .sp, .pc] s (callTable w s) :=
  (changes_push16 s _).trans (changes_jump _ _)

theorem changes_callLong (a : Addr) : ChangesOnly [.mem, .sp, .pc, .pbr] s (callLong a s) :=
  (((changes_push8 s _).trans (changes_push16 _ _)).mono (by decide) : ChangesOnly pushFields _ _).trans
    (changes_jumpLong _ _)

theorem changes_returnNear : ChangesOnly [.sp, .pc] s (returnNear s) := (changes_pull16 s).trans (changes_jump _ _)

theorem changes_returnLong : ChangesOnly [.sp, .pc, .pbr] s (returnLong s) :=
  ((changes_pull16 s).trans (changes_pull8 _)).trans
    ((changes_pc _ (s.pull16.1 + 1)).trans (changes_pbr _ s.pull16.2.pull8.1)) |>.mono (by decide)

theorem changes_pullA : ChangesOnly (.sp :: .a :: nzFields) s (pullA s) :=
  (changes_pullW s _).trans <| (changes_setAcc _ _ _).trans (changes_setNZ _ _)

theorem changes_pullX : ChangesOnly (.sp :: .x :: nzFields) s (pullX s) :=
  (changes_pullW s _).trans <| (changes_setX _ _).trans (changes_setNZ _ _)

theorem changes_pullY : ChangesOnly (.sp :: .y :: nzFields) s (pullY s) :=
  (changes_pullW s _).trans <| (changes_setY _ _).trans (changes_setNZ _ _)

theorem changes_pullDbr : ChangesOnly (.sp :: .dbr :: profileFields s.cfg.flagProfile) s (pullDbr s) :=
  (changes_pull8 s).trans <| (changes_dbr _ s.pull8.1).trans (changes_profileNZ _ _ rfl)

theorem changes_pullD : ChangesOnly (.sp :: .d :: profileFields s.cfg.flagProfile) s (pullD s) :=
  (changes_pull16 s).trans <| (changes_d _ s.pull16.1).trans (changes_profileNZ _ _ rfl)

theorem changes_transferToX (v : Word) : ChangesOnly (.x :: nzFields) s (transferToX v s) :=
  (changes_setX s _).trans (changes_setNZ _ _)

theorem changes_transferToY (v : Word) : ChangesOnly (.y :: nzFields) s (transferToY v s) :=
  (changes_setY s _).trans (changes_setNZ _ _)

theorem changes_transferToA (v : Word) : ChangesOnly (.a :: nzFields) s (transferToA v s) :=
  (changes_setAcc s _ _).trans (changes_setNZ _ _)

theorem changes_transferToC (v : Word) : ChangesOnly (.a :: nzFields) s (transferToC v s) :=
  (changes_a s _).trans (changes_setNZ _ _)

theorem changes_transferXY : ChangesOnly (.y :: nzFields) s (transferXY s) :=
  (changes_y s s.x).trans (changes_setNZ _ _)

theorem changes_transferYX : ChangesOnly (.x :: nzFields) s (transferYX s) :=
  (changes_x s _).trans (changes_setNZ _ _)

theorem changes_transferToS (v : Word) : ChangesOnly [.sp] s (transferToS v s) := changes_sp s _

theorem changes_transferToD : ChangesOnly (.d :: profileFields s.cfg.flagProfile) s (transferToD s) :=
  (changes_d s s.a).trans (changes_profileNZ _ _ rfl)

theorem changes_exchangeHalves : ChangesOnly (.a :: profileFields s.cfg.flagProfile) s (exchangeHalves s) :=
  (changes_a s (word (lo s.a) (hi s.a))).trans (changes_profileNZ _ _ rfl)

end

end Sys2Proof.Machine
end

section
/-! The access matrix by rows: what each instruction can change (10_state.md R38). -/

namespace Sys2Proof.Machine

/-- What a read-modify-write operation writes its value to (43_shift_incdec.md R200). -/
abbrev modifiedFields : Form → List StateField
  | .acc => [.a]
  | _ => [.mem]

/-- `PBR`, in the forms of JMP and JSR that have a 24-bit target (44_branch_jump.md R233, R236). -/
abbrev bankFields : Form → List StateField
  | .data (.mem (.long _)) | .absIndLong _ => [.pbr]
  | _ => []

/-- The fields that the instructions of a mnemonic in a form can change under a profile, `PC` of a sequential one left
out (10_state.md R32, R36, R38). -/
def mnemonicWrites (q : FlagProfile) (mn : Mnemonic) (fm : Form) : List StateField :=
  match mn with
  | .adc | .sbc => arithFields
  | .and | .eor | .ora | .lda | .txa | .tya | .tdc | .tsc => .a :: nzFields
  | .cmp | .cpx | .cpy => .flag .c :: nzFields
  | .bit => [.flag .z, .flag .n, .flag .v]
  | .trb | .tsb => .mem :: .flag .z :: testedFields q
  | .ldx | .inx | .dex | .tax | .tsx | .tyx => .x :: nzFields
  | .ldy | .iny | .dey | .tay | .txy => .y :: nzFields
  | .sta | .stx | .sty | .stz => [.mem]
  | .asl | .lsr | .rol | .ror => modifiedFields fm ++ .flag .c :: nzFields
  | .inc | .dec => modifiedFields fm ++ nzFields
  | .bcc | .bcs | .beq | .bmi | .bne | .bpl | .bra | .bvc | .bvs | .wdm => [.pc]
  | .jmp => .pc :: bankFields fm
  | .jsr => .mem :: .sp :: .pc :: bankFields fm
  | .rts => [.sp, .pc]
  | .rtl => [.sp, .pc, .pbr]
  | .rti => trapReturnFields
  | .brk | .cop => trapFields
  | .mvn | .mvp => blockFields
  | .pea | .pha | .phb | .phd | .phk | .php | .phx | .phy => pushFields
  | .pla => .sp :: .a :: nzFields
  | .plx => .sp :: .x :: nzFields
  | .ply => .sp :: .y :: nzFields
  | .plb => .sp :: .dbr :: profileFields q
  | .pld => .sp :: .d :: profileFields q
  | .plp => .sp :: writePFields
  | .rep | .sep => writePFields
  | .clc | .sec => [.flag .c]
  | .cld | .sed => [.flag .d]
  | .cli | .sei => [.flag .i]
  | .clv => [.flag .v]
  | .xce => exchangeFields
  | .tcs | .txs => [.sp]
  | .tcd => .d :: profileFields q
  | .xba => .a :: profileFields q
  | .stp | .wai => [.run]
  | .nop => []

/-- The fields an instruction can change under a profile. -/
def writesOf (q : FlagProfile) (i : Instr) : List StateField := mnemonicWrites q i.mnemonic i.form

section
variable (s : State)

theorem changes_modify (f : Modify) {cs : List StateField} (hf : ∀ n c m, carryFields (f n c m).carry = cs) (op : Byte)
    (fm : Form) : ChangesOnly (modifiedFields fm ++ (cs ++ nzFields)) s (modify f op fm s) := by
  unfold modify
  split
  · exact changes_modifyAcc s f hf
  · exact changes_modifyMemory s f hf _ _
  · exact .refl _ s

theorem changes_branchOn (taken : Bool) (fm : Form) : ChangesOnly [.pc] s (branchOn taken fm s) :=
  branchOn_of fm (.refl _ s) (changes_branchIf s taken) (changes_jump s)

theorem changes_jumpTo (fm : Form) : ChangesOnly (.pc :: bankFields fm) s (jumpTo fm s) := by
  unfold jumpTo
  split
  · exact changes_jump s _
  · exact changes_jumpLong s _
  · exact changes_jump s _
  · exact changes_jump s _
  · exact changes_jumpLong s _
  · exact .refl _ s

theorem changes_callTo (fm : Form) : ChangesOnly (.mem :: .sp :: .pc :: bankFields fm) s (callTo fm s) := by
  unfold callTo
  split
  · exact changes_callAbs s _
  · exact changes_callLong s _
  · exact changes_callTable s _
  · exact .refl _ s

/-- The effect of every mnemonic changes the fields of its row of the matrix and no other. -/
theorem changes_mnemonicEffect (mn : Mnemonic) (op : Byte) (fm : Form) :
    ChangesOnly (mnemonicWrites s.cfg.flagProfile mn fm) s (mnemonicEffect mn op fm s) :=
  match mn with
  | .adc => onData_of fm (.refl _ s) (changes_adc s op)
  | .sbc => onData_of fm (.refl _ s) (changes_sbc s op)
  | .and | .eor | .ora => onData_of fm (.refl _ s) (changes_logic s _ op)
  | .cmp | .cpx | .cpy => onData_of fm (.refl _ s) fun _ => changes_setCompare s _ _
  | .bit => bitTest_of fm (.refl _ s) (changes_bitImmediate s op) (changes_bitMemory s op)
  | .trb | .tsb => onMem_of fm (.refl _ s) (changes_testAndModify s _ op)
  | .lda => onData_of fm (.refl _ s) (changes_loadA s op)
  | .ldx => onData_of fm (.refl _ s) (changes_loadX s op)
  | .ldy => onData_of fm (.refl _ s) (changes_loadY s op)
  | .sta | .stx | .sty | .stz => onMem_of fm (.refl _ s) fun _ => changes_storeOperand s _ op _ _
  | .asl | .lsr | .rol | .ror => changes_modify s _ (cs := [.flag .c]) (fun _ _ _ => rfl) op fm
  | .inc | .dec => changes_modify s _ (cs := []) (fun _ _ _ => rfl) op fm
  | .inx | .dex => changes_stepX s _
  | .iny | .dey => changes_stepY s _
  | .bcc | .bcs | .beq | .bmi | .bne | .bpl | .bra | .bvc | .bvs => changes_branchOn s _ fm
  | .jmp => changes_jumpTo s fm
  | .jsr => changes_callTo s fm
  | .rts => changes_returnNear s
  | .rtl => changes_returnLong s
  | .rti => changes_returnFromTrap s
  | .brk | .cop => changes_trapEntry s _ _
  | .mvn | .mvp => blockMove_of fm (.refl _ s) (changes_blockStep s _)
  | .pea => pushOperand_of fm (.refl _ s) (changes_push16 s)
  | .pha | .phx | .phy => changes_pushW s _ _
  | .phb | .phk | .php => changes_push8 s _
  | .phd => changes_push16 s _
  | .pla => changes_pullA s
  | .plx => changes_pullX s
  | .ply => changes_pullY s
  | .plb => changes_pullDbr s
  | .pld => changes_pullD s
  | .plp => (changes_pull8 s).trans (changes_writeP _ _)
  | .rep | .sep => onImm8_of fm (.refl _ s) fun _ => changes_writeP s _
  | .clc | .cld | .cli | .clv | .sec | .sed | .sei => changes_setFlag s _ _
  | .xce => changes_exchangeCE s
  | .tax | .tsx => changes_transferToX s _
  | .tay => changes_transferToY s _
  | .txy => changes_transferXY s
  | .tyx => changes_transferYX s
  | .txa | .tya => changes_transferToA s _
  | .tdc | .tsc => changes_transferToC s _
  | .tcs | .txs => changes_transferToS s _
  | .tcd => changes_transferToD s
  | .xba => changes_exchangeHalves s
  | .stp | .wai => changes_run s _
  | .wdm => changes_advance s _
  | .nop => .refl _ s

theorem changes_effectOf (i : Instr) : ChangesOnly (writesOf s.cfg.flagProfile i) s (effectOf i s) :=
  changes_mnemonicEffect s _ _ _

/-- What `exec` changes: the instruction's row of the matrix, and `PC`. -/
theorem changes_exec {s t : State} {i : Instr} (h : exec i s = .next t) :
    ChangesOnly (writesOf s.cfg.flagProfile i ++ [.pc]) s t := by
  rw [eq_of_exec_next h]
  split
  · exact (changes_effectOf s i).trans (changes_advance _ _)
  · exact (changes_effectOf s i).mono (List.subset_append_left _ _)

/-- A field other than `PC` that `exec` has changed stands in the instruction's row. -/
theorem mem_writesOf {s t : State} {i : Instr} (h : exec i s = .next t) {r : StateField} (hpc : r ≠ .pc)
    (hr : ¬ r.Same s t) : r ∈ writesOf s.cfg.flagProfile i := by
  have hm := (changes_exec h).mem_of_not_same hr
  simpa [hpc] using hm

end

end Sys2Proof.Machine
end

section
/-! The access matrix by columns: which instructions can change a field (10_state.md R38), and that the rows agree. -/

namespace Sys2Proof.Machine

/-- The instructions that can change `PBR` (10_state.md R25). -/
def writesPbr (i : Instr) : Bool :=
  match i with
  | .jmpLong _ | .jmpAbsIndLong _ | .jsrLong _ | .rtl | .rti | .brk _ | .cop _ => true
  | _ => false

/-- The instructions that can change `DBR` (10_state.md R24). -/
def writesDbr (i : Instr) : Bool :=
  match i with
  | .plb | .mvn _ _ | .mvp _ _ => true
  | _ => false

/-- The instructions that can change `D` (10_state.md R23). -/
def writesD (i : Instr) : Bool :=
  match i with
  | .pld | .tcd => true
  | _ => false

/-- The instructions that can change `E` (10_state.md R30). -/
def writesE (i : Instr) : Bool :=
  match i with
  | .xce => true
  | _ => false

/-- The columns of the access matrix: whether an instruction may change a field under a profile. The signals and the
parameters have no writer; `PC` is spoken of apart from the move to the next instruction in sequence. -/
def mayWrite (q : FlagProfile) (i : Instr) (r : StateField) : Bool :=
  match r with
  | .a => i.writesA
  | .x => i.writesX
  | .y => i.writesY
  | .d => writesD i
  | .sp => i.writesS
  | .pc => !i.sequential
  | .dbr => writesDbr i
  | .pbr => writesPbr i
  | .e => writesE i
  | .mem => i.stores
  | .flag f => decide (i.mnemonic ∈ flagWriters q f)
  | .run | .draws => true
  | .cfg | .nmiPending | .irqLine | .abortLine | .resetLine => false

/-- The field is a flag of `P`. -/
def StateField.isFlag : StateField → Bool
  | .flag _ => true
  | _ => false

/-- Rows and columns of the matrix agree, the flags apart: the table's 256 rows compared one by one. -/
theorem writesOf_all_mayWrite (q : FlagProfile) (i : Instr) :
    (writesOf q i).all (fun r => r.isFlag || mayWrite q i r) = true := by
  cases q <;> cases i <;> rfl

theorem flag_not_mem_modifiedFields (f : Flag) (fm : Form) : .flag f ∉ modifiedFields fm := by
  unfold modifiedFields
  split <;> simp

theorem flag_not_mem_bankFields (f : Flag) (fm : Form) : .flag f ∉ bankFields fm := by
  unfold bankFields
  split <;> simp

/-- The form of an instruction does not matter for the flags it writes. -/
theorem flag_mem_mnemonicWrites_form {q : FlagProfile} {mn : Mnemonic} {fm : Form} {f : Flag}
    (h : .flag f ∈ mnemonicWrites q mn fm) : .flag f ∈ mnemonicWrites q mn .implied := by
  cases mn
  case asl | lsr | rol | ror | inc | dec =>
    exact List.mem_append_right _ ((List.mem_append.mp h).resolve_left (flag_not_mem_modifiedFields f fm))
  case jmp | jsr => simp [mnemonicWrites, flag_not_mem_bankFields] at h
  all_goals exact h

/-- The field is no flag, or the flag table has the mnemonic among its writers (10_state.md R32). -/
def flagTabled (q : FlagProfile) (mn : Mnemonic) : StateField → Bool
  | .flag f => decide (mn ∈ flagWriters q f)
  | _ => true

/-- Rows and columns agree on the flags: one row for each mnemonic. -/
theorem mnemonicWrites_all_flagTabled (q : FlagProfile) (mn : Mnemonic) :
    (mnemonicWrites q mn .implied).all (flagTabled q mn) = true := by
  cases q <;> cases mn <;> rfl

theorem mem_flagWriters_of_mem {q : FlagProfile} {i : Instr} {f : Flag} (h : .flag f ∈ writesOf q i) :
    i.mnemonic ∈ flagWriters q f :=
  of_decide_eq_true (List.all_eq_true.mp (mnemonicWrites_all_flagTabled q _) _ (flag_mem_mnemonicWrites_form h))

theorem mayWrite_of_mem {q : FlagProfile} {i : Instr} {r : StateField} (h : r ∈ writesOf q i) :
    mayWrite q i r = true := by
  cases r with
  | flag f => exact decide_eq_true (mem_flagWriters_of_mem h)
  | _ => exact List.all_eq_true.mp (writesOf_all_mayWrite q i) _ h

end Sys2Proof.Machine
end

section
/-! What a change of a field says of the instruction, and the obligations about writers and about `PC`. -/

namespace Sys2Proof.Machine

theorem exec_rti (s : State) : exec .rti s = .next s.returnFromTrap := rfl

section
variable {i : Instr} {s t : State} (h : exec i s = .next t)
include h

/-- A field other than `PC` that an instruction has changed is one that the matrix lets it change. -/
theorem mayWrite_of_changed (r : StateField) (hpc : r ≠ .pc) (hr : ¬ r.Same s t) :
    mayWrite s.cfg.flagProfile i r = true := mayWrite_of_mem (mem_writesOf h hpc hr)

/-- A field other than `PC` that the matrix does not let the instruction change is kept. -/
theorem same_of_not_mayWrite (r : StateField) (hpc : r ≠ .pc) (hw : mayWrite s.cfg.flagProfile i r = false) :
    r.Same s t := by
  by_contra hr
  simp [mayWrite_of_changed h r hpc hr] at hw

theorem writesE_of_changed (hr : t.e ≠ s.e) : i = .xce := by
  have hw : writesE i = true := mayWrite_of_changed h .e (by simp) hr
  unfold writesE at hw
  split at hw
  · rfl
  · cases hw

theorem writesD_of_changed (hr : t.d ≠ s.d) : i = .pld ∨ i = .tcd := by
  have hw : writesD i = true := mayWrite_of_changed h .d (by simp) hr
  unfold writesD at hw
  split at hw
  · exact .inl rfl
  · exact .inr rfl
  · cases hw

theorem writesDbr_of_changed (hr : t.dbr ≠ s.dbr) : i = .plb ∨ (∃ d c, i = .mvn d c) ∨ ∃ d c, i = .mvp d c := by
  have hw : writesDbr i = true := mayWrite_of_changed h .dbr (by simp) hr
  unfold writesDbr at hw
  split at hw
  · exact .inl rfl
  · exact .inr (.inl ⟨_, _, rfl⟩)
  · exact .inr (.inr ⟨_, _, rfl⟩)
  · cases hw

/-- RTI counts in native mode only: in emulation mode it pulls no `PBR`. -/
theorem writesPbr_of_changed (hr : t.pbr ≠ s.pbr) :
    (∃ l, i = .jmpLong l) ∨ (∃ w, i = .jmpAbsIndLong w) ∨ (∃ l, i = .jsrLong l) ∨ i = .rtl ∨
      (i = .rti ∧ s.e = false) ∨ (∃ b, i = .brk b) ∨ ∃ b, i = .cop b := by
  have hw : writesPbr i = true := mayWrite_of_changed h .pbr (by simp) hr
  cases i
  case jmpLong l => exact .inl ⟨l, rfl⟩
  case jmpAbsIndLong w => exact .inr (.inl ⟨w, rfl⟩)
  case jsrLong l => exact .inr (.inr (.inl ⟨l, rfl⟩))
  case rtl => exact .inr (.inr (.inr (.inl rfl)))
  case rti =>
    rw [exec_rti] at h
    cases h
    have hn : s.e = false := Bool.eq_false_iff.mpr fun he => hr (returnFromTrap_pbr_emulation he)
    exact .inr (.inr (.inr (.inr (.inl ⟨rfl, hn⟩))))
  case brk b => simp
  case cop b => simp
  all_goals cases hw

/-- PC after a sequential instruction (10_state.md R28). -/
theorem pc_of_sequential (hi : i.sequential = true) : t.pc = pcAfter i s := by
  have hk : (effectOf i s).pc = s.pc := by
    by_contra hr
    have hw : mayWrite _ i .pc = true := mayWrite_of_mem ((changes_effectOf s i).mem_of_not_same hr)
    simp [mayWrite, hi] at hw
  rw [eq_of_exec_next h, if_pos hi, advance_pc, hk, pcAfter]

theorem pbr_of_sequential (hi : i.sequential = true) : t.pbr = s.pbr := by
  by_contra hr
  obtain ⟨_, rfl⟩ | ⟨_, rfl⟩ | ⟨_, rfl⟩ | rfl | ⟨rfl, -⟩ | ⟨_, rfl⟩ | ⟨_, rfl⟩ := writesPbr_of_changed h hr <;>
    cases hi

end

/-- The operand bytes of a form are as many as its format has (30_encoding.md R91). -/
theorem length_formBytes (fm : Form) : fm.bytes.length = fm.length := by
  cases fm with
  | data o =>
    cases o with
    | imm v => cases v <;> rfl
    | mem m => cases m <;> rfl
  | _ => rfl

/-- The bytes of an instruction's encoding are as many as its format has (30_encoding.md R90, R91). -/
theorem length_encode (i : Instr) : (encode i).length = i.length := by
  rw [encode, List.length_cons, length_formBytes, Instr.length, Nat.add_comm]

end Sys2Proof.Machine

open Sys2Proof Sys2Proof.Machine

/-- Settles O57: each conjunct is one column of the access matrix. -/
theorem registersHaveOnlyTheirWriters : Obligations.RegistersHaveOnlyTheirWriters := by
  intro i s t h
  exact ⟨writesE_of_changed h, writesPbr_of_changed h, writesDbr_of_changed h, writesD_of_changed h,
    mayWrite_of_changed h .a (by simp), mayWrite_of_changed h .x (by simp), mayWrite_of_changed h .y (by simp),
    mayWrite_of_changed h .sp (by simp), same_of_not_mayWrite h .nmiPending (by simp) rfl,
    same_of_not_mayWrite h .irqLine (by simp) rfl, same_of_not_mayWrite h .abortLine (by simp) rfl,
    same_of_not_mayWrite h .resetLine (by simp) rfl, same_of_not_mayWrite h .cfg (by simp) rfl⟩

/-- Settles O58: the flag columns of the access matrix are the flag table. -/
theorem flagsHaveOnlyTheirWriters : Obligations.FlagsHaveOnlyTheirWriters := fun _ _ _ f h hf =>
  of_decide_eq_true (mayWrite_of_changed h (.flag f) (by simp) hf)

/-- Settles O59: memory that is the same reads the same. -/
theorem onlyStoringInstructionsChangeMemory : Obligations.OnlyStoringInstructionsChangeMemory := fun _ _ _ h hm =>
  mayWrite_of_changed h .mem (by simp) fun hs => hm fun b =>
    congrArg (Memory.read · b) hs

/-- Settles O60: the effect of a sequential instruction leaves `PC` to the move by its length. -/
theorem sequentialInstructionsAdvanceByTheirLength : Obligations.SequentialInstructionsAdvanceByTheirLength := by
  intro i s t hi h
  exact ⟨by rw [length_encode]; exact pc_of_sequential h hi, pbr_of_sequential h hi⟩
end

section
/-! The addresses of an access and the movement of the stack pointer as numbers (20_memory.md R68, R75, R77, R80). -/

namespace Sys2Proof.Machine

/-! ### The address of byte `k`, one lemma per wrap class -/

theorem offset_add_toNat (a : Addr) (k : Nat) :
    (offset a + BitVec.ofNat 16 k).toNat = (a.toNat + k) % 2 ^ 16 := by
  rw [BitVec.toNat_add, BitVec.toNat_ofNat, offset_toNat]; omega

theorem nextAddr_linear_toNat (a : Addr) (k : Nat) : (nextAddr a k .linear).toNat = (a.toNat + k) % 2 ^ 24 := by
  rw [nextAddr, BitVec.toNat_add, BitVec.toNat_ofNat, Nat.add_mod_mod]

theorem nextAddr_bank0_toNat (a : Addr) (k : Nat) : (nextAddr a k .bank0).toNat = (a.toNat + k) % 2 ^ 16 := by
  rw [nextAddr, addr_toNat, offset_add_toNat, show (0 : Byte).toNat = 0 from rfl]; omega

theorem nextAddr_pbank_toNat (a : Addr) (k : Nat) :
    (nextAddr a k .pbank).toNat = a.toNat / 2 ^ 16 * 2 ^ 16 + (a.toNat + k) % 2 ^ 16 := by
  rw [nextAddr, addr_toNat, offset_add_toNat, bank_toNat]; omega

/-! ### The stack pointer: all of `S` moves in native mode, only `SL` in emulation mode -/

theorem pushedSp_native_toNat (w : Word) : (pushedSp false w).toNat = (w.toNat + 65535) % 65536 := by
  have h : pushedSp false w = w - 1 := rfl
  rw [h]; bv_omega

theorem pulledSp_native_toNat (w : Word) : (pulledSp false w).toNat = (w.toNat + 1) % 65536 :=
  BitVec.toNat_add w 1

theorem lo_pushedSp_emulation (w : Word) : lo (pushedSp true w) = lo w - 1 := lo_word _ _

theorem lo_pulledSp_emulation (w : Word) : lo (pulledSp true w) = lo w + 1 := lo_word _ _

@[simp] theorem pushedSp_pulledSp (e : Bool) (w : Word) : pushedSp e (pulledSp e w) = w := by
  cases e with
  | false => simp [pushedSp, pulledSp]
  | true => simp [pushedSp, pulledSp]

end Sys2Proof.Machine

open Sys2Proof Sys2Proof.Machine

/-- Settles O11: one wrap class per conjunct. -/
theorem byteAddressesOfAnAccessFollowItsWrapClass : Obligations.ByteAddressesOfAnAccessFollowItsWrapClass :=
  fun a k => ⟨nextAddr_linear_toNat a k, nextAddr_bank0_toNat a k, nextAddr_pbank_toNat a k⟩

/-- Settles O56: native mode moves `S`, emulation mode keeps `SH` and moves `SL`, and the two moves undo each other. -/
theorem stackPointerMovesInItsMode : Obligations.StackPointerMovesInItsMode := by
  intro sp
  have hpush : (lo (pushedSp true sp)).toNat = ((lo sp).toNat + 255) % 256 := by
    rw [lo_pushedSp_emulation]; bv_omega
  have hpull : (lo (pulledSp true sp)).toNat = ((lo sp).toNat + 1) % 256 := by
    rw [lo_pulledSp_emulation]; exact BitVec.toNat_add _ 1
  exact ⟨pushedSp_native_toNat sp, pulledSp_native_toNat sp, hi_pushedSp_emulation sp, hpush,
    hi_pulledSp_emulation sp, hpull, fun e => ⟨pulledSp_pushedSp e sp, pushedSp_pulledSp e sp⟩⟩
end

section
/-! The decoder and the encoder say the same of every byte list (30_encoding.md R91, R92, R97, R103). -/

namespace Sys2Proof

/-! ### What a row makes of its operand bytes -/

/-- Row `r` makes the instruction `i` of exactly the operand bytes `ops`, a `#` immediate having the width in force
(30_encoding.md R91, R92). `Row.read_eq_ok_iff` ties it to `Row.read`. -/
inductive Row.Makes (m8 x8 : Bool) : Row → List Byte → Instr → Prop where
  | op (i : Instr) : Row.Makes m8 x8 (.op i) [] i
  | op8 (mk : Byte → Instr) (b : Byte) : Row.Makes m8 x8 (.op8 mk) [b] (mk b)
  | op16 (mk : Word → Instr) (w : Word) : Row.Makes m8 x8 (.op16 mk) [lo w, hi w] (mk w)
  | op24 (mk : Addr → Instr) (a : Addr) : Row.Makes m8 x8 (.op24 mk) (longBytes a) (mk a)
  | immM (mk : Imm → Instr) (v : Imm) (hv : v.width = Width.of m8) : Row.Makes m8 x8 (.immM mk) v.bytes (mk v)
  | immX (mk : Imm → Instr) (v : Imm) (hv : v.width = Width.of x8) : Row.Makes m8 x8 (.immX mk) v.bytes (mk v)
  | blk (mk : Byte → Byte → Instr) (dst src : Byte) : Row.Makes m8 x8 (.blk mk) [dst, src] (mk dst src)

theorem longBytes_addr (b2 b1 b0 : Byte) : longBytes (addr b2 (word b1 b0)) = [b0, b1, b2] := by
  simp [longBytes]

theorem addr_word_longBytes (a : Addr) : addr (bank a) (word (hi (offset a)) (lo (offset a))) = a := by simp

/-- An immediate is read back from its bytes, whatever follows them, where its width is the one in force. -/
theorem readImm_bytes {is8 : Bool} {v : Imm} (hv : v.width = Width.of is8) (mk : Imm → Instr) (rest : List Byte) :
    readImm is8 mk (v.bytes ++ rest) = .ok (mk v) := by
  cases v <;> cases is8
  case b8.true => rfl
  case b16.false w => exact congrArg (fun w => Except.ok (mk (.b16 w))) (word_hi_lo w)
  case b8.false => cases hv
  case b16.true => cases hv

/-- What `readImm` answers is made of an immediate of the width in force, whose bytes the list begins with. -/
theorem of_readImm_eq_ok {is8 : Bool} {mk : Imm → Instr} {bs : List Byte} {i : Instr}
    (h : readImm is8 mk bs = .ok i) :
    ∃ v rest, v.width = Width.of is8 ∧ bs = Imm.bytes v ++ rest ∧ i = mk v := by
  unfold readImm at h
  split at h
  · cases h; exact ⟨.b8 _, _, rfl, rfl, rfl⟩
  · cases h; exact ⟨.b16 _, _, rfl, by simp only [Imm.bytes, lo_word, hi_word]; rfl, rfl⟩
  · cases h

/-- A row reads back what it makes, whatever follows the operand bytes. -/
theorem Row.Makes.read {m8 x8 : Bool} {r : Row} {ops : List Byte} {i : Instr} (h : r.Makes m8 x8 ops i)
    (rest : List Byte) : r.read m8 x8 (ops ++ rest) = .ok i := by
  cases h with
  | op => rfl
  | op8 => rfl
  | op16 mk w => exact congrArg (fun w => Except.ok (mk w)) (word_hi_lo w)
  | op24 mk a => exact congrArg (fun a => Except.ok (mk a)) (addr_word_longBytes a)
  | immM mk v hv => exact readImm_bytes hv mk rest
  | immX mk v hv => exact readImm_bytes hv mk rest
  | blk => rfl

/-- What a row reads is made of the operand bytes that the list begins with. -/
theorem Row.makes_of_read_eq_ok {m8 x8 : Bool} {r : Row} {bs : List Byte} {i : Instr}
    (h : r.read m8 x8 bs = .ok i) : ∃ ops rest, bs = ops ++ rest ∧ r.Makes m8 x8 ops i := by
  unfold Row.read at h
  split at h
  case h_1 => cases h; exact ⟨[], _, rfl, .op _⟩
  case h_2 => cases h; exact ⟨[_], _, rfl, .op8 _ _⟩
  case h_3 => cases h; exact ⟨_, _, by rw [lo_word, hi_word]; rfl, .op16 _ _⟩
  case h_4 => cases h; exact ⟨_, _, by rw [longBytes_addr]; rfl, .op24 _ _⟩
  case h_5 =>
    obtain ⟨v, rest, hv, hbs, rfl⟩ := of_readImm_eq_ok h
    exact ⟨_, rest, hbs, .immM _ v hv⟩
  case h_6 =>
    obtain ⟨v, rest, hv, hbs, rfl⟩ := of_readImm_eq_ok h
    exact ⟨_, rest, hbs, .immX _ v hv⟩
  case h_7 => cases h; exact ⟨[_, _], _, rfl, .blk _ _ _⟩
  case h_8 => cases h

theorem Row.read_eq_ok_iff {m8 x8 : Bool} {r : Row} {bs : List Byte} {i : Instr} :
    r.read m8 x8 bs = .ok i ↔ ∃ ops rest, bs = ops ++ rest ∧ r.Makes m8 x8 ops i := by
  constructor
  · exact Row.makes_of_read_eq_ok
  · rintro ⟨ops, rest, rfl, h⟩
    exact h.read rest

/-! ### The opcode map against the instructions, one case per opcode each way (30_encoding.md R95) -/

/-- Whatever row `r` makes is well-formed and is encoded by the opcode `op` and its operand bytes. -/
def Row.FitsAt (m8 x8 : Bool) (op : Byte) (r : Row) : Prop :=
  ∀ ops i, r.Makes m8 x8 ops i → encode i = op :: ops ∧ i.WellFormed m8 x8 = true

/-- Entry `k` of the opcode map makes the instructions of opcode `k`. The goals that `rfl` leaves are those of the
`#` rows, whose immediate has the width in force. -/
theorem fitsAt_opcodeTable (m8 x8 : Bool) :
    opcodeTable.zipIdx.Forall fun p => p.1.FitsAt m8 x8 (BitVec.ofNat 8 p.2) := by
  and_intros <;> rintro _ _ ⟨⟩ <;> refine ⟨rfl, ?_⟩
  any_goals rfl
  all_goals exact beq_iff_eq.mpr ‹_›

/-- The row of an opcode makes well-formed instructions that have this opcode. -/
theorem fitsAt_of_row {m8 x8 : Bool} {op : Byte} {r : Row} (hr : opcodeTable[op.toNat]? = some r) :
    r.FitsAt m8 x8 op := by
  have hmem : (r, op.toNat) ∈ opcodeTable.zipIdx := List.mem_zipIdx_iff_getElem?.mpr hr
  have hfit := List.forall_iff_forall_mem.mp (fitsAt_opcodeTable m8 x8) _ hmem
  rwa [BitVec.ofNat_toNat, BitVec.setWidth_eq] at hfit

/-- Every well-formed instruction is made of its operand bytes by the row of its opcode. The goals that `constructor`
leaves are the widths of the immediates. -/
theorem exists_row_of_wellFormed {m8 x8 : Bool} {i : Instr} (h : i.WellFormed m8 x8 = true) :
    ∃ r, opcodeTable[i.opcode.toNat]? = some r ∧ r.Makes m8 x8 i.form.bytes i := by
  cases i <;> refine ⟨_, rfl, ?_⟩ <;> constructor
  all_goals exact eq_of_beq h

/-! ### The decoder and the encoder -/

theorem decode_cons_eq_ok_iff {m8 x8 : Bool} {op : Byte} {bs : List Byte} {i : Instr} :
    decode m8 x8 (op :: bs) = .ok i ↔ ∃ r, opcodeTable[op.toNat]? = some r ∧ r.read m8 x8 bs = .ok i := by
  cases hr : opcodeTable[op.toNat]? with
  | none => simp [decode, hr]
  | some r => simp [decode, hr]

/-- The decoder reads an instruction exactly where its encoding stands and it is well-formed (30_encoding.md R91, R92,
R103). -/
theorem decode_eq_ok_iff {m8 x8 : Bool} {bs : List Byte} {i : Instr} :
    decode m8 x8 bs = .ok i ↔ i.WellFormed m8 x8 = true ∧ ∃ rest, bs = encode i ++ rest := by
  constructor
  · intro h
    cases bs with
    | nil => cases h
    | cons op bs =>
      obtain ⟨r, hr, hread⟩ := decode_cons_eq_ok_iff.mp h
      obtain ⟨ops, rest, rfl, hmakes⟩ := Row.read_eq_ok_iff.mp hread
      obtain ⟨henc, hwf⟩ := fitsAt_of_row hr ops i hmakes
      exact ⟨hwf, rest, by rw [henc, List.cons_append]⟩
  · rintro ⟨hwf, rest, rfl⟩
    obtain ⟨r, hr, hmakes⟩ := exists_row_of_wellFormed hwf
    exact decode_cons_eq_ok_iff.mpr ⟨r, hr, hmakes.read rest⟩

theorem decode_encode_append {m8 x8 : Bool} {i : Instr} (h : i.WellFormed m8 x8 = true) (rest : List Byte) :
    decode m8 x8 (encode i ++ rest) = .ok i :=
  decode_eq_ok_iff.mpr ⟨h, rest, rfl⟩

end Sys2Proof

open Sys2Proof

/-- Settles O5: the row of the instruction's opcode reads its operand bytes back. -/
theorem decodeOfEncodeIsTheInstruction : Obligations.DecodeOfEncodeIsTheInstruction :=
  fun _ _ _ rest h => decode_encode_append h rest

/-- Settles O6: the row of the opcode read makes only well-formed instructions of that opcode. -/
theorem decodedInstructionIsWellFormedAndEncodesItsBytes :
    Obligations.DecodedInstructionIsWellFormedAndEncodesItsBytes :=
  fun _ _ _ _ h => decode_eq_ok_iff.mp h

/-- Settles O7: each byte string is the encoding of the instruction it stands for. -/
theorem writtenOutBytesDecode : Obligations.WrittenOutBytesDecode := by
  have decodes (m8 x8 : Bool) (i : Instr) (h : i.WellFormed m8 x8 = true) : decode m8 x8 (encode i) = .ok i := by
    simpa using decode_encode_append h []
  exact ⟨decodes _ _ (.ldaImm (.b8 0x80)) rfl, decodes _ _ (.ldaImm (.b16 0x1234)) rfl,
    decodes _ _ (.ldxImm (.b16 0x8000)) rfl, decodes _ _ (.staAbs 0x2000) rfl, decodes _ _ (.ldaLongX 0x123456) rfl,
    decodes _ _ (.mvn 0x7F 0x7E) rfl, decodes _ _ (.jsrLong 0x7E9000) rfl, decodes _ _ (.bne 0xFB) rfl,
    decodes _ _ (.brk 0x00) rfl, decodes _ _ .nop rfl, decodes _ _ (.rep 0x30) rfl, decodes _ _ (.ldaSrIndY 0x01) rfl⟩
end

section
/-! What the next fetch reads after bytes have been stored at `PBR:PC` (30_encoding.md R92, 20_memory.md R73). -/

namespace Sys2Proof.Machine

/-- Storing at `PBR:PC` changes memory only. -/
theorem storeAtPc_eq (k : Nat) (bs : List Byte) (s : State) :
    s.storeAtPc k bs = { s with mem := (s.storeAtPc k bs).mem } := by
  induction bs generalizing k s with
  | nil => rfl
  | cons b bs ih => exact ih _ _

/-- The addresses of different bytes of the bank from `PC` on differ, wherever `PC` is. -/
theorem addr_pc_add_ne (b : Byte) (pc : Word) {j k : Nat} (hj : j < 65536) (hk : k < 65536) (hjk : j ≠ k) :
    addr b (pc + BitVec.ofNat 16 j) ≠ addr b (pc + BitVec.ofNat 16 k) := by
  intro h
  have hofs : BitVec.ofNat 16 j = BitVec.ofNat 16 k := add_left_cancel ((addr_inj _ _ _ _).mp h).2
  have hnat := congrArg BitVec.toNat hofs
  rw [BitVec.toNat_ofNat, BitVec.toNat_ofNat] at hnat
  omega

/-- Bytes stored further on leave an earlier byte of the instruction alone, as long as they do not come round to it. -/
theorem fetch8_storeAtPc_of_lt {s : State} (hm : Memory.wf s.mem = true) {j k : Nat} {bs : List Byte} (hj : j < k)
    (hk : k + bs.length ≤ 65536) : (s.storeAtPc k bs).fetch8 j = s.fetch8 j := by
  induction bs generalizing k s with
  | nil => rfl
  | cons b bs ih =>
    rw [List.length_cons] at hk
    rw [State.storeAtPc, ih (Memory.wf_write hm _ _) (by omega) (by omega)]
    exact Memory.read_write_ne hm _ (addr_pc_add_ne _ _ (by omega) (by omega) (by omega))

/-- Each byte stored is the byte fetched. -/
theorem fetch8_storeAtPc {s : State} (hm : Memory.wf s.mem = true) {k : Nat} {bs : List Byte}
    (hk : k + bs.length ≤ 65536) {n : Nat} (hn : n < bs.length) : (s.storeAtPc k bs).fetch8 (k + n) = bs[n] := by
  induction bs generalizing k s n with
  | nil => cases hn
  | cons b bs ih =>
    rw [List.length_cons] at hk hn
    have hw := Memory.wf_write hm (addr s.pbr (s.pc + BitVec.ofNat 16 k)) b
    cases n with
    | zero =>
      rw [State.storeAtPc, fetch8_storeAtPc_of_lt hw (by omega) (by omega)]
      exact Memory.read_write_same hm _ b
    | succ n =>
      rw [State.storeAtPc, show k + (n + 1) = k + 1 + n by omega]
      exact ih hw (by omega) (by omega)

/-- Four bytes stored at `PBR:PC` are the four the next fetch reads. -/
theorem fetchBytes_storeAtPc {s : State} (hm : Memory.wf s.mem = true) (b0 b1 b2 b3 : Byte) :
    (s.storeAtPc 0 [b0, b1, b2, b3]).fetchBytes = [b0, b1, b2, b3] := by
  have fetched (n : Nat) (hn : n < 4) : (s.storeAtPc 0 [b0, b1, b2, b3]).fetch8 n = [b0, b1, b2, b3][n] := by
    have := fetch8_storeAtPc (k := 0) (bs := [b0, b1, b2, b3]) hm (by simp) hn
    rwa [Nat.zero_add] at this
  rw [State.fetchBytes, fetched 0 (by decide), fetched 1 (by decide), fetched 2 (by decide), fetched 3 (by decide)]
  rfl

/-- Placing an instruction sets `run` and the signals quiet and changes memory, nothing else. -/
theorem withFetchWord_eq (s : State) (nbits w : Nat) :
    s.withFetchWord nbits w = { s.quiet with mem := (s.withFetchWord nbits w).mem } :=
  storeAtPc_eq 0 (wordBytes nbits w) s.quiet

/-- A placed instruction is not kept waiting by a signal or by `run`. -/
theorem boundary_withFetchWord (s : State) (nbits w : Nat) : (s.withFetchWord nbits w).boundary = none := by
  rw [withFetchWord_eq]
  exact boundary_quiet { s with mem := (s.withFetchWord nbits w).mem }

/-- The instruction fetched is the one placed. -/
theorem fetchInstr_withFetchWord {s : State} (hm : Memory.wf s.mem = true) (nbits w : Nat) :
    (s.withFetchWord nbits w).fetchInstr = decode s.m8 s.x8 (wordBytes nbits w) := by
  have hm8 : (s.withFetchWord nbits w).m8 = s.m8 := by rw [withFetchWord_eq]; rfl
  have hx8 : (s.withFetchWord nbits w).x8 = s.x8 := by rw [withFetchWord_eq]; rfl
  have hbytes : (s.withFetchWord nbits w).fetchBytes = wordBytes nbits w :=
    fetchBytes_storeAtPc (s := s.quiet) hm _ _ _ _
  rw [State.fetchInstr, hm8, hx8, hbytes]

/-- With nothing to take at the boundary a step is the instruction fetched (60_exceptions.md R358). -/
theorem step_of_fetchInstr {s : State} {i : Instr} (hb : s.boundary = none) (hf : s.fetchInstr = .ok i) :
    step s = exec i s := by
  simp only [step, hb, hf]

end Sys2Proof.Machine

open Sys2Proof.Machine

/-- Settles O8: nothing is taken at the boundary, and the four bytes fetched are the four placed. -/
theorem fetchWordRunsAsTheNextInstruction : Obligations.FetchWordRunsAsTheNextInstruction := by
  intro s nbits w i hm hdec
  have hfetch : (s.withFetchWord nbits w).fetchInstr = .ok i := by rw [fetchInstr_withFetchWord hm, hdec]
  exact ⟨step_of_fetchInstr (boundary_withFetchWord s nbits w) hfetch, withFetchWord_eq s nbits w⟩
end

section
/-! The addresses of the memory modes as numbers (40_addressing_modes.md R124 to R140, R144, R145), and the pointers the
indirect ones read (20_memory.md R63). -/

namespace Sys2Proof.Machine

/-! ### Direct page: when an address wraps in its page, and where it is then -/

/-- The wrap condition under both settings of `DP_WRAP_COND` (40_addressing_modes.md R126). -/
theorem wrapCond_iff (q : Params) (op : Byte) (d : Word) :
    wrapCond q op d = true ↔
      q.dpWrapCond = .sourceRule ∧ d = 0 ∧ legacy6502.contains op = true ∨
      q.dpWrapCond = .hardwareRule ∧ lo d = 0 := by
  unfold wrapCond
  cases q.dpWrapCond with
  | sourceRule => simp
  | hardwareRule => simp

/-- A direct-page address that wraps, as a number: the low byte alone takes the index (40_addressing_modes.md R124). -/
theorem directEA_wrap_toNat {op zp : Byte} {idx : Word} {s : State} (hw : (s.e && wrapCond s.cfg op s.d) = true) :
    (directEA op zp idx s).addr.toNat = (hi s.d).toNat * 256 + (zp.toNat + idx.toNat) % 256 := by
  rw [directEA_wrap hw, addr_toNat, word_toNat, BitVec.toNat_add, lo_toNat, Nat.add_mod_mod,
    show (0 : Byte).toNat = 0 from rfl, Nat.zero_mul, Nat.zero_add]

/-! ### Stack relative -/

/-- A stack-relative address stays in bank 0 (40_addressing_modes.md R136). -/
theorem stackEA_toNat (ds : Byte) (s : State) : (stackEA ds s).addr.toNat = (s.sp.toNat + ds.toNat) % 65536 := by
  have hds : (ds.setWidth 16).toNat = ds.toNat := BitVec.toNat_setWidth_of_le (by decide)
  rw [stackEA, addr_toNat, BitVec.toNat_add, hds, show (0 : Byte).toNat = 0 from rfl, Nat.zero_mul, Nat.zero_add]

/-! ### Indexing and pointers -/

/-- An index carries out of the bank it starts in (40_addressing_modes.md R139). -/
theorem indexed_addr_toNat (b : Byte) (w idx : Word) :
    (indexed (addr b w) idx).toNat = (b.toNat * 65536 + w.toNat + idx.toNat) % 2 ^ 24 := by
  rw [indexed_toNat, addr_toNat]

/-- A pointer is little-endian (20_memory.md R63). -/
theorem Memory.read16_toNat (m : Memory) (p : EA) :
    (m.read16 p).toNat = (m.read (p.byte 0)).toNat + 256 * (m.read (p.byte 1)).toNat := by
  rw [Memory.read16, word_toNat]; omega

/-- A long pointer is a pointer with the bank in its third byte (40_addressing_modes.md R134). -/
theorem Memory.read24_toNat (m : Memory) (p : EA) :
    (m.read24 p).toNat =
      (m.read (p.byte 0)).toNat + 256 * (m.read (p.byte 1)).toNat + 65536 * (m.read (p.byte 2)).toNat := by
  rw [Memory.read24, addr_toNat, Memory.read16_toNat]; omega

/-! ### The operand a form loads -/

/-- An immediate of the width it is used at is itself (40_addressing_modes.md R125). -/
theorem immValue_b8 (v : Byte) : immValue .w8 (.b8 v) = v := BitVec.setWidth_eq v

theorem immValue_b16 (v : Word) : immValue .w16 (.b16 v) = v := BitVec.setWidth_eq v

end Sys2Proof.Machine

open Sys2Proof Sys2Proof.Machine

/-- Settles O12: the three modes are `DirectEA` at index 0, `X` and `Y`, and `DirectEA` has one lemma per case. -/
theorem directPageAddresses : Obligations.DirectPageAddresses := by
  intro op b s wraps addressIs
  have wraps_iff : (s.e && wrapCond s.cfg op s.d) = true ↔ wraps := by
    rw [Bool.and_eq_true, wrapCond_iff]
  have direct (m : Mode) (idx : Word) (hm : effectiveAddress op m s = directEA op b idx s) :
      addressIs m idx.toNat := by
    simp only [addressIs, hm]
    exact ⟨fun hw => directEA_wrap_toNat (wraps_iff.mpr hw),
      fun hw hc => directEA_sum hc (Bool.eq_false_iff.mpr fun h => hw (wraps_iff.mp h)),
      fun hw hc => directEA_bank0 hc (Bool.eq_false_iff.mpr fun h => hw (wraps_iff.mp h)),
      directEA_cls op b idx s⟩
  exact ⟨direct (.zp b) 0 rfl, direct (.zpX b) s.x rfl, direct (.zpY b) s.y rfl⟩

/-- Settles O13: one clause per mode, then the wrap classes. -/
theorem absoluteLongAndStackAddresses : Obligations.AbsoluteLongAndStackAddresses := by
  intro op ds w l s
  exact ⟨addr_toNat s.dbr w, indexed_addr_toNat s.dbr w s.x, indexed_addr_toNat s.dbr w s.y, rfl, indexed_toNat l s.x,
    stackEA_toNat ds s, rfl, rfl, rfl, rfl, rfl, rfl⟩

/-- Settles O14: each target is its pointer's number, with the data bank above a two-byte pointer and `Y` added where
the mode is indexed after it; a loaded operand is the immediate or the bytes read. -/
theorem indirectAddresses : Obligations.IndirectAddresses := by
  intro op b s zp zpX sr ptr
  have ptr_eq (p : EA) : ptr p = (s.mem.read16 p).toNat := (Memory.read16_toNat s.mem p).symm
  have ptr_long (p : EA) : ptr p + 65536 * (s.mem.read (p.byte 2)).toNat = (s.mem.read24 p).toNat :=
    (Memory.read24_toNat s.mem p).symm
  rw [ptr_long, ptr_eq, ptr_eq, ptr_eq]
  exact ⟨addr_toNat _ _, addr_toNat _ _, indexed_addr_toNat _ _ _, rfl, indexed_toNat _ _, indexed_addr_toNat _ _ _,
    rfl, rfl, rfl, rfl, rfl, rfl, immValue_b8, immValue_b16, fun _ => Memory.readW_w8 _ _,
    fun _ => Memory.readW_w16 _ _⟩
end

section
/-! Loads and stores: what they read, write and keep (41_load_store.md R160 to R167). -/

namespace Sys2Proof.Machine

/-! ### The operand widths (00_scope.md R9) -/

theorem wm_of_m8 {s : State} (h : s.m8 = true) : s.wm = .w8 := by rw [State.wm, h, Width.of_true]

theorem wm_of_not_m8 {s : State} (h : s.m8 = false) : s.wm = .w16 := by rw [State.wm, h, Width.of_false]

theorem wx_of_x8 {s : State} (h : s.x8 = true) : s.wx = .w8 := by rw [State.wx, h, Width.of_true]

theorem wx_of_not_x8 {s : State} (h : s.x8 = false) : s.wx = .w16 := by rw [State.wx, h, Width.of_false]

/-- A zero-extended byte is the low byte of a word with a zero high byte. -/
theorem setWidth_eq_word (v : Byte) : v.setWidth 16 = word 0 v := by
  rw [← word_hi_lo (v.setWidth 16), hi_setWidth, lo_setWidth]

/-! ### Loads -/

theorem nzOf_setNZ {n : Nat} (v : BitVec n) (s : State) : nzOf v (s.setNZ v) := by simp [nzOf]

/-- An operation that changes no flag outside `fs` keeps them, and so does going on to the next instruction. -/
theorem flagsKept_advance_of_changesOnly {ws : List StateField} {fs : List Flag} {s t : State}
    (h : ChangesOnly ws s t) (hf : ∀ f, .flag f ∈ ws → f ∈ fs) (k : Nat) : flagsKept fs s (t.advance k) :=
  fun f hn => h (.flag f) (mt (hf f) hn)

theorem memoryKept_advance_of_changesOnly {ws : List StateField} {s t : State} (h : ChangesOnly ws s t)
    (hm : .mem ∉ ws) (k : Nat) : memoryKept s (t.advance k) :=
  fun b => congrArg (·.read b) (h .mem hm : t.mem = s.mem)

section
variable (op : Byte) (o : DataOperand) {s : State} {w : Width}

theorem loadA_of_wm (h : s.wm = w) :
    loadA op o s = (s.setAcc w (loadOperand w op o s)).setNZ (loadOperand w op o s) := by
  subst h
  rfl

theorem loadX_of_wx (h : s.wx = w) :
    loadX op o s = (s.setX (loadOperand w op o s)).setNZ (loadOperand w op o s) := by
  subst h
  rfl

theorem loadY_of_wx (h : s.wx = w) :
    loadY op o s = (s.setY (loadOperand w op o s)).setNZ (loadOperand w op o s) := by
  subst h
  rfl

end

/-! ### Stores -/

section
variable {s : State} (h : Memory.wf s.mem = true) (op : Byte) (m : Mode)
include h

/-- A store leaves every byte outside its operand alone. -/
theorem memoryKeptOutside_storeOperand (w : Width) (v : BitVec w.bits) :
    memoryKeptOutside ((effectiveAddress op m s).operandBytes w) s (storeOperand w op m v s) := by
  intro b hb
  refine Memory.read_writeW_outside h _ w _ v b fun k hk e => hb ?_
  subst e
  cases w with
  | w8 =>
    obtain rfl : k = 0 := by simpa using hk
    exact List.mem_singleton_self _
  | w16 =>
    obtain rfl | rfl : k = 0 ∨ k = 1 := by
      have : k < 2 := hk
      omega
    · exact List.mem_cons_self
    · exact List.mem_cons_of_mem _ (List.mem_singleton_self _)

theorem storeOperand_w8_byte (v : Byte) :
    (storeOperand .w8 op m v s).mem.read ((effectiveAddress op m s).byte 0) = v :=
  Memory.readW_writeW h s.cfg.byteOrder .w8 _ v

/-- The two bytes of a stored word, low byte first (20_memory.md R63). -/
theorem storeOperand_w16_bytes (v : Word) :
    (storeOperand .w16 op m v s).mem.read ((effectiveAddress op m s).byte 0) = lo v ∧
    (storeOperand .w16 op m v s).mem.read ((effectiveAddress op m s).byte 1) = hi v := by
  have hv : word _ _ = v := Memory.readW_writeW h s.cfg.byteOrder .w16 (effectiveAddress op m s) v
  rw [← word_hi_lo v, word_inj, word_hi_lo] at hv
  exact hv.symm

end

/-- The instruction `i` has stored the register value `r` at the mode `m`: its low byte where `narrow` holds, else both
bytes. Nothing else has changed but `PC`, which is at the next instruction. -/
def StoresRegister (narrow : Bool) (i : Instr) (m : Mode) (r : Word) (s t : State) : Prop :=
  let ea := effectiveAddress i.opcode m s
  (narrow = true → t.mem.read (ea.byte 0) = lo r ∧ memoryKeptOutside (ea.operandBytes .w8) s t) ∧
  (narrow = false → t.mem.read (ea.byte 0) = lo r ∧ t.mem.read (ea.byte 1) = hi r ∧
    memoryKeptOutside (ea.operandBytes .w16) s t) ∧
  t = { s with mem := t.mem, pc := pcAfter i s }

/-- Storing the low bits of a register at a width stores the register (41_load_store.md R160). -/
theorem storesRegister_storeOperand {s : State} (h : Memory.wf s.mem = true) (narrow : Bool) (i : Instr) (m : Mode)
    (r : Word) :
    StoresRegister narrow i m r s
      ((storeOperand (Width.of narrow) i.opcode m (r.setWidth (Width.of narrow).bits) s).advance i.length) := by
  refine ⟨?_, ?_, congrArg (State.advance i.length) (storeOperand_frame _ _ _ _ s)⟩
  · rintro rfl
    exact ⟨(storeOperand_w8_byte h _ m _).trans (setWidth_eq_lo r), memoryKeptOutside_storeOperand h _ m .w8 _⟩
  · rintro rfl
    have hr : r.setWidth (Width.of false).bits = r := BitVec.setWidth_eq r
    rw [hr]
    obtain ⟨hlo, hhi⟩ := storeOperand_w16_bytes h i.opcode m r
    exact ⟨hlo, hhi, memoryKeptOutside_storeOperand h _ m .w16 r⟩

/-- STZ stores as a register that holds zero would (41_load_store.md R167). -/
theorem storeZ_eq (op : Byte) (m : Mode) (s : State) :
    storeZ op m s = storeOperand s.wm op m ((0 : Word).setWidth s.wm.bits) s := by
  have hz : (0 : Word).setWidth s.wm.bits = 0 := BitVec.setWidth_zero _ _
  rw [storeZ, hz]

end Sys2Proof.Machine

open Sys2Proof Sys2Proof.Machine

/-- Settles O15: the accumulator is written at width `wm`, which keeps `AH` at 8 bits. -/
theorem ldaLoadsTheAccumulator : Obligations.LdaLoadsTheAccumulator := by
  intro i o s hm hf _
  have changes := changes_loadA s i.opcode o
  refine ⟨_, exec_lda s hm hf, fun h8 => ?_, fun h16 => ?_, flagsKept_advance_of_changesOnly changes (by simp) _,
    memoryKept_advance_of_changesOnly changes (by simp) _, congrArg (State.advance i.length) (loadA_frame _ o s)⟩
  · rw [loadA_of_wm _ o (wm_of_m8 h8)]
    exact ⟨rfl, nzOf_setNZ _ _⟩
  · rw [loadA_of_wm _ o (wm_of_not_m8 h16)]
    exact ⟨rfl, nzOf_setNZ _ _⟩

/-- Settles O16: `X` takes the operand of width `wx`, zero-extended. -/
theorem ldxLoadsTheIndexRegister : Obligations.LdxLoadsTheIndexRegister := by
  intro i o s hm hf _
  have changes := changes_loadX s i.opcode o
  refine ⟨_, exec_ldx s hm hf, fun h8 => ?_, fun h16 => ?_, flagsKept_advance_of_changesOnly changes (by simp) _,
    memoryKept_advance_of_changesOnly changes (by simp) _, congrArg (State.advance i.length) (loadX_frame _ o s)⟩
  · rw [loadX_of_wx _ o (wx_of_x8 h8)]
    exact ⟨setWidth_eq_word _, nzOf_setNZ _ _⟩
  · rw [loadX_of_wx _ o (wx_of_not_x8 h16)]
    exact ⟨BitVec.setWidth_eq _, nzOf_setNZ _ _⟩

/-- Settles O17: `Y` takes the operand of width `wx`, zero-extended. -/
theorem ldyLoadsTheIndexRegister : Obligations.LdyLoadsTheIndexRegister := by
  intro i o s hm hf _
  have changes := changes_loadY s i.opcode o
  refine ⟨_, exec_ldy s hm hf, fun h8 => ?_, fun h16 => ?_, flagsKept_advance_of_changesOnly changes (by simp) _,
    memoryKept_advance_of_changesOnly changes (by simp) _, congrArg (State.advance i.length) (loadY_frame _ o s)⟩
  · rw [loadY_of_wx _ o (wx_of_x8 h8)]
    exact ⟨setWidth_eq_word _, nzOf_setNZ _ _⟩
  · rw [loadY_of_wx _ o (wx_of_not_x8 h16)]
    exact ⟨BitVec.setWidth_eq _, nzOf_setNZ _ _⟩

/-- Settles O18: STA stores the accumulator at width `wm`. -/
theorem staStoresTheAccumulator : Obligations.StaStoresTheAccumulator :=
  fun i m s hm hf hw => ⟨_, exec_sta s hm hf, storesRegister_storeOperand hw s.m8 i m s.a⟩

/-- Settles O19: STX and STY store their registers at width `wx`. -/
theorem stxAndStyStoreTheIndexRegister : Obligations.StxAndStyStoreTheIndexRegister :=
  fun i m s hf hw =>
    ⟨fun hm => ⟨_, exec_stx s hm hf, storesRegister_storeOperand hw s.x8 i m s.x⟩,
      fun hm => ⟨_, exec_sty s hm hf, storesRegister_storeOperand hw s.x8 i m s.y⟩⟩

/-- Settles O20: STZ stores zero at width `wm`, and both bytes of a zero word are zero. -/
theorem stzStoresZero : Obligations.StzStoresZero := by
  intro i m s hm hf hw
  refine ⟨_, exec_stz s hm hf, ?_⟩
  rw [storeZ_eq]
  exact storesRegister_storeOperand hw s.m8 i m 0
end

section
/-! Arithmetic, logic, compare and bit tests: their results, flags and frames (42_alu.md R180 to R192). -/

namespace Sys2Proof.Machine

theorem eq_true_iff_of_eq_decide {b : Bool} {p : Prop} [Decidable p] (h : b = decide p) : b = true ↔ p := by
  rw [h, decide_eq_true_iff]

/-! ### Binary sums and differences as signed numbers (42_alu.md R181, R189) -/

/-- V of an addition: the signed sum is out of range (42_alu.md R181). Where the top bits of the operands differ the sum
is in range; where they agree, the top bit of the result and the carry tell how far it reaches. -/
theorem binaryAdd_overflow_iff {n : Nat} (hn : 0 < n) (a m : BitVec n) (c : Bool) :
    (binaryAdd a m c).overflow = true ↔
      a.toInt + m.toInt + c.toNat < -2 ^ (n - 1) ∨ 2 ^ (n - 1) ≤ a.toInt + m.toInt + c.toNat := by
  obtain ⟨k, rfl⟩ : ∃ k, n = k + 1 := ⟨n - 1, by omega⟩
  have hsum := binaryAdd_exact a m c
  have ha := a.isLt
  have hm := m.isLt
  have hr := (binaryAdd a m c).value.isLt
  have hc := Bool.toNat_le c
  have hcarry := Bool.toNat_le (binaryAdd a m c).carry
  have hv : (binaryAdd a m c).overflow = (a.msb == m.msb && (binaryAdd a m c).value.msb != a.msb) := rfl
  have hpow : ((2 ^ k : Nat) : Int) = 2 ^ k := by norm_cast
  simp only [hv, BitVec.msb_eq_decide, BitVec.toInt_eq_toNat_cond, Nat.add_sub_cancel, pow_succ, ← hpow] at *
  generalize 2 ^ k = p at *
  generalize (binaryAdd a m c).carry.toNat = carry at *
  generalize (binaryAdd a m c).value.toNat = r at *
  generalize c.toNat = c at *
  generalize a.toNat = a at *
  generalize m.toNat = m at *
  obtain rfl | rfl : carry = 0 ∨ carry = 1 := by omega
  all_goals grind

/-- A subtraction adds the complement of the operand (42_alu.md R189). -/
theorem binarySub_eq_binaryAdd_not {n : Nat} (hn : 0 < n) (a m : BitVec n) (c : Bool) :
    binarySub a m c = binaryAdd a (~~~m) c := by
  have hsum : subSum a m c = addSum a (~~~m) c := by rw [subSum, addSum, BitVec.toNat_not]
  have hmsb : (~~~m).msb = !m.msb := by simp [BitVec.msb_not, hn]
  have hne : (a.msb != m.msb) = (a.msb == (~~~m).msb) := by
    rw [hmsb]
    cases a.msb <;> cases m.msb <;> rfl
  rw [binarySub, binaryAdd, hsum, hne]

/-- The complement of `m`, signed, is `-1 - m`. -/
theorem toInt_not_of_pos {n : Nat} (hn : 0 < n) (m : BitVec n) : (~~~m).toInt = -1 - m.toInt := by
  obtain ⟨k, rfl⟩ : ∃ k, n = k + 1 := ⟨n - 1, by omega⟩
  have hm := m.isLt
  rw [BitVec.toInt_eq_toNat_cond, BitVec.toInt_eq_toNat_cond, BitVec.toNat_not]
  rw [pow_succ] at *
  split <;> split <;> omega

/-- V of a subtraction: the signed difference is out of range (42_alu.md R189). -/
theorem binarySub_overflow_iff {n : Nat} (hn : 0 < n) (a m : BitVec n) (c : Bool) :
    (binarySub a m c).overflow = true ↔
      a.toInt - m.toInt - (1 - c.toNat) < -2 ^ (n - 1) ∨ 2 ^ (n - 1) ≤ a.toInt - m.toInt - (1 - c.toNat) := by
  have hnot : a.toInt - m.toInt - (1 - c.toNat) = a.toInt + (~~~m).toInt + c.toNat := by
    rw [toInt_not_of_pos hn]
    omega
  rw [binarySub_eq_binaryAdd_not hn, binaryAdd_overflow_iff hn, hnot]

/-! ### Decimal sums and differences (42_alu.md R192) -/

/-- A value of `w/4` digits fits its width. -/
theorem toNat_ofNat_bcdOf (w : Width) (t : Nat) :
    (BitVec.ofNat w.bits (bcdOf (Width.digits w) t)).toNat = bcdOf (Width.digits w) t := by
  have hpow : 16 ^ Width.digits w = 2 ^ w.bits := by cases w <;> rfl
  rw [BitVec.toNat_ofNat, Nat.mod_eq_of_lt (hpow ▸ bcdOf_lt (Width.digits w) t)]

/-- The result of a decimal addition is BCD and spells the sum modulo `10^n`. -/
theorem decimalAdd_spells (w : Width) (a m : BitVec w.bits) (c : Bool) :
    bcdValid (Width.digits w) (decimalAdd w a m c).1.toNat = true ∧
    (bcdVal (Width.digits w) (decimalAdd w a m c).1.toNat : Int) =
      (decimalSum w a m c : Int) % 10 ^ Width.digits w := by
  have hlt : decimalSum w a m c % 10 ^ Width.digits w < 10 ^ Width.digits w := Nat.mod_lt _ (by positivity)
  rw [decimalAdd, toNat_ofNat_bcdOf, bcdVal_bcdOf _ _ hlt]
  exact ⟨bcdValid_bcdOf _ _, by norm_cast⟩

/-- The result of a decimal subtraction is BCD and spells the difference modulo `10^n`. -/
theorem decimalSub_spells (w : Width) (a m : BitVec w.bits) (c : Bool) :
    bcdValid (Width.digits w) (decimalSub w a m c).1.toNat = true ∧
    (bcdVal (Width.digits w) (decimalSub w a m c).1.toNat : Int) = decimalDiff w a m c % 10 ^ Width.digits w := by
  have hpos : (0 : Int) < 10 ^ Width.digits w := by positivity
  have hnonneg := Int.emod_nonneg (decimalDiff w a m c) hpos.ne'
  have hlt : (decimalDiff w a m c % 10 ^ Width.digits w).toNat < 10 ^ Width.digits w := by
    rw [Int.toNat_lt hnonneg]
    exact_mod_cast Int.emod_lt_of_pos _ hpos
  rw [decimalSub, toNat_ofNat_bcdOf, bcdVal_bcdOf _ _ hlt]
  exact ⟨bcdValid_bcdOf _ _, Int.toNat_of_nonneg hnonneg⟩

/-! ### Results in the accumulator (42_alu.md R180) -/

/-- The accumulator at its width has become `r`, with `AH` kept at 8 bits, and N and Z are those of `r`. -/
def AccBecomes (s t : State) (r : BitVec s.wm.bits) : Prop :=
  t.acc s.wm = r ∧ nzOf r t ∧ (s.m8 = true → hi t.a = hi s.a)

/-- A write of the accumulator at width `wm` keeps `AH` with `m8`. -/
theorem hi_setAcc_of_m8 {s u : State} (ha : u.a = s.a) (r : BitVec s.wm.bits) (h8 : s.m8 = true) :
    hi (u.setAcc s.wm r).a = hi s.a := by
  have hw := wm_of_m8 h8
  revert r
  rw [hw]
  intro r
  rw [hi_setAcc_w8, ha]

theorem accBecomes_setAcc_setNZ {s u : State} (ha : u.a = s.a) (r : BitVec s.wm.bits) :
    AccBecomes s ((u.setAcc s.wm r).setNZ r) r :=
  ⟨acc_setAcc _ r u, nzOf_setNZ r _, hi_setAcc_of_m8 ha r⟩

theorem accBecomes_setArith (s : State) (r : Arith s.wm.bits) : AccBecomes s (setArith s.wm r s) r.value :=
  accBecomes_setAcc_setNZ (s := s) (u := (s.setFlag .c r.carry).setFlag .v r.overflow) rfl r.value

theorem accBecomes_setDecimal (s : State) (r : BitVec s.wm.bits × Bool) : AccBecomes s (setDecimal s.wm r s) r.1 :=
  accBecomes_setAcc_setNZ (s := s) (u := (s.setFlag .c r.2).setFlagFree .v) rfl r.1

theorem accBecomes_logic (f : (n : Nat) → BitVec n → BitVec n → BitVec n) (op : Byte) (o : DataOperand) (s : State) :
    AccBecomes s (logic f op o s) (f s.wm.bits (s.acc s.wm) (loadOperand s.wm op o s)) :=
  accBecomes_setAcc_setNZ rfl _

theorem hi_setUnspecified_of_m8 {s : State} (h8 : s.m8 = true) : hi (setUnspecified s.wm s).a = hi s.a := by
  unfold setUnspecified
  simp only [setFlagFree_a_same]
  exact hi_setAcc_of_m8 (s := s) (drawWord_a_same s) _ h8

theorem setArith_c (w : Width) (r : Arith w.bits) (s : State) : (setArith w r s).flag .c = r.carry := by
  simp [setArith, flag_def, flagOf_withFlag]

theorem setArith_v (w : Width) (r : Arith w.bits) (s : State) : (setArith w r s).flag .v = r.overflow := by
  simp [setArith, flag_def, flagOf_withFlag]

theorem setDecimal_c (w : Width) (r : BitVec w.bits × Bool) (s : State) : (setDecimal w r s).flag .c = r.2 := by
  simp [setDecimal, flag_def, flagOf_withFlag]

/-! ### ADC and SBC (42_alu.md R181, R189, R192) -/

section
variable {i : Instr} {o : DataOperand} {s : State}

theorem exec_adc_binary (hm : i.mnemonic = .adc) (hf : i.form = .data o) (hd : s.flag .d = false) :
    exec i s = .next ((setArith s.wm (binaryAdd (s.acc s.wm) (loadOperand s.wm i.opcode o s) (s.flag .c)) s).advance
      i.length) := by
  simp [exec_adc s hm hf, adc, hd]

theorem exec_sbc_binary (hm : i.mnemonic = .sbc) (hf : i.form = .data o) (hd : s.flag .d = false) :
    exec i s = .next ((setArith s.wm (binarySub (s.acc s.wm) (loadOperand s.wm i.opcode o s) (s.flag .c)) s).advance
      i.length) := by
  simp [exec_sbc s hm hf, sbc, hd]

theorem exec_adc_decimal (hm : i.mnemonic = .adc) (hf : i.form = .data o) (hd : s.flag .d = true) :
    exec i s = .next ((decimalOp decimalAdd Config.decimalAdd s.wm (s.acc s.wm) (loadOperand s.wm i.opcode o s)
      s).advance i.length) := by
  simp [exec_adc s hm hf, adc, hd]

theorem exec_sbc_decimal (hm : i.mnemonic = .sbc) (hf : i.form = .data o) (hd : s.flag .d = true) :
    exec i s = .next ((decimalOp decimalSub Config.decimalSub s.wm (s.acc s.wm) (loadOperand s.wm i.opcode o s)
      s).advance i.length) := by
  simp [exec_sbc s hm hf, sbc, hd]

end

/-- What the end of a binary ADC or SBC leaves, whatever its result `r`. -/
theorem setArith_ends (i : Instr) (s : State) (r : Arith s.wm.bits) :
    let t := (setArith s.wm r s).advance i.length
    nzOf (t.acc s.wm) t ∧ (s.m8 = true → hi t.a = hi s.a) ∧ flagsKept [.n, .v, .z, .c] s t ∧ memoryKept s t ∧
      t = { s with a := t.a, p := t.p, pc := pcAfter i s } := by
  have changes := changes_setArith s s.wm r
  obtain ⟨hacc, hnz, hah⟩ := accBecomes_setArith s r
  exact ⟨by rwa [← hacc] at hnz, hah, flagsKept_advance_of_changesOnly changes (by simp) _,
    memoryKept_advance_of_changesOnly changes (by simp) _, congrArg (State.advance i.length) (setArith_frame _ r s)⟩

section
variable (g : DecimalDef) (f : DecimalFn) {s : State} {a m : BitVec s.wm.bits}

/-- On valid BCD a decimal operation gives the definition's result and C under either rule; under the platform's, V is
what its function gives. -/
theorem decimalOp_of_valid (h : decimalValid s.wm a m = true) :
    AccBecomes s (decimalOp g f s.wm a m s) (g s.wm a m (s.flag .c)).1 ∧
    (decimalOp g f s.wm a m s).flag .c = (g s.wm a m (s.flag .c)).2 ∧
    (s.cfg.decimal = .platform → (decimalOp g f s.wm a m s).flag .v = (f s.wm a m (s.flag .c)).2.2) := by
  obtain ⟨hrule, -, hop⟩ | ⟨-, hinvalid, -⟩ | ⟨-, hop⟩ := decimalOp_cases g f s.wm a m s
  · rw [hop]
    exact ⟨accBecomes_setDecimal s _, setDecimal_c _ _ s, fun hplatform => by simp [hrule] at hplatform⟩
  · simp [h] at hinvalid
  · rw [hop, refineDecimal_valid g f _ h]
    exact ⟨accBecomes_setArith s _, setArith_c _ _ s, fun _ => setArith_v _ _ s⟩

/-- On any other operands only `AH` is known under the definition; the platform's function gives everything. -/
theorem decimalOp_of_invalid (h : decimalValid s.wm a m = false) :
    (s.m8 = true → hi (decimalOp g f s.wm a m s).a = hi s.a) ∧
    (s.cfg.decimal = .platform →
      AccBecomes s (decimalOp g f s.wm a m s) (f s.wm a m (s.flag .c)).1 ∧
      (decimalOp g f s.wm a m s).flag .c = (f s.wm a m (s.flag .c)).2.1 ∧
      (decimalOp g f s.wm a m s).flag .v = (f s.wm a m (s.flag .c)).2.2) := by
  obtain ⟨-, hvalid, -⟩ | ⟨hrule, -, hop⟩ | ⟨-, hop⟩ := decimalOp_cases g f s.wm a m s
  · simp [h] at hvalid
  · rw [hop]
    exact ⟨hi_setUnspecified_of_m8, fun hplatform => by simp [hrule] at hplatform⟩
  · rw [hop, refineDecimal_invalid g f _ h]
    obtain ⟨hacc, hnz, hah⟩ := accBecomes_setArith s
      ⟨(f s.wm a m (s.flag .c)).1, (f s.wm a m (s.flag .c)).2.1, (f s.wm a m (s.flag .c)).2.2⟩
    exact ⟨hah, fun _ => ⟨⟨hacc, hnz, hah⟩, setArith_c _ _ s, setArith_v _ _ s⟩⟩

/-- What a decimal operation keeps on any operands. -/
theorem decimalOp_keeps (i : Instr) :
    let t := (decimalOp g f s.wm a m s).advance i.length
    flagsKept [.n, .v, .z, .c] s t ∧ memoryKept s t ∧
      t = { s with a := t.a, p := t.p, draws := t.draws, pc := pcAfter i s } := by
  have changes := changes_decimalOp s g f s.wm a m
  exact ⟨flagsKept_advance_of_changesOnly changes (by simp) _, memoryKept_advance_of_changesOnly changes (by simp) _,
    congrArg (State.advance i.length) (decimalOp_frame g f _ a m s)⟩

end

/-! ### Compares (42_alu.md R184 to R186) -/

theorem setCompare_flag {n : Nat} (r m : BitVec n) (s : State) (f : Flag) :
    (setCompare r m s).flag f = if f = .z then decide (r - m = 0) else if f = .n then (r - m).msb
      else if f = .c then decide (m.toNat ≤ r.toNat) else s.flag f := by
  simp [setCompare]

/-- What a compare of the register value `r` with the operand `m` leaves. -/
theorem setCompare_ends {n : Nat} (i : Instr) (s : State) (r m : BitVec n) :
    let t := (setCompare r m s).advance i.length
    (t.flag .c = true ↔ m.toNat ≤ r.toNat) ∧ (t.flag .z = true ↔ r = m) ∧ t.flag .n = (r - m).msb ∧
      flagsKept [.n, .z, .c] s t ∧ memoryKept s t ∧ t = { s with p := t.p, pc := pcAfter i s } := by
  have changes := changes_setCompare s r m
  exact ⟨eq_true_iff_of_eq_decide (setCompare_flag r m s .c),
    (eq_true_iff_of_eq_decide (setCompare_flag r m s .z)).trans sub_eq_zero, setCompare_flag r m s .n,
    flagsKept_advance_of_changesOnly changes (by simp) _, memoryKept_advance_of_changesOnly changes (by simp) _,
    congrArg (State.advance i.length) (setCompare_frame r m s)⟩

/-! ### BIT (42_alu.md R183) -/

theorem exec_bit_data {i : Instr} {o : DataOperand} (s : State) (hm : i.mnemonic = .bit) (hf : i.form = .data o) :
    exec i s = .next ((bitTest i.opcode (.data o) s).advance i.length) := by
  have hseq : i.sequential = true := by simp [Instr.sequential, hm]
  rw [exec_eq_effect, if_pos hseq, effectOf, hm, hf]
  rfl

/-- N and V follow the operand's top bits with every operand but an immediate under the hardware's profile (10_state.md
R36). -/
theorem bitTest_data (op : Byte) (o : DataOperand) (s : State) :
    ((∃ v, o = .imm v) ∧ s.cfg.flagProfile = .hardware ∧
      bitTest op (.data o) s = testZ (s.acc s.wm) (loadOperand s.wm op o s) s) ∨
    (((∃ m, o = .mem m) ∨ s.cfg.flagProfile = .source) ∧
      bitTest op (.data o) s = topBits (loadOperand s.wm op o s) (testZ (s.acc s.wm) (loadOperand s.wm op o s) s)) := by
  cases o with
  | mem m => exact .inr ⟨.inl ⟨m, rfl⟩, rfl⟩
  | imm v => cases hq : s.cfg.flagProfile <;> simp [bitTest, bitImmediate, hq]

theorem testZ_z {n : Nat} (a m : BitVec n) (s : State) : (testZ a m s).flag .z = decide (a &&& m = 0) := by
  simp [testZ]

theorem topBits_flag {n : Nat} (m : BitVec n) (s : State) (f : Flag) :
    (topBits m s).flag f = if f = .v then m.getLsbD (n - 2) else if f = .n then m.getLsbD (n - 1) else s.flag f := by
  simp [topBits, BitVec.msb_eq_getLsbD_last]

theorem bitTest_z (op : Byte) (o : DataOperand) (s : State) :
    (bitTest op (.data o) s).flag .z = decide (s.acc s.wm &&& loadOperand s.wm op o s = 0) := by
  obtain ⟨-, -, h⟩ | ⟨-, h⟩ := bitTest_data op o s
  · rw [h, testZ_z]
  · rw [h, topBits_flag]
    exact testZ_z _ _ s

theorem bitTest_n_v (op : Byte) {o : DataOperand} {s : State} (h : s.cfg.flagProfile = .source ∨ ∃ m, o = .mem m) :
    (bitTest op (.data o) s).flag .n = (loadOperand s.wm op o s).getLsbD (s.wm.bits - 1) ∧
    (bitTest op (.data o) s).flag .v = (loadOperand s.wm op o s).getLsbD (s.wm.bits - 2) := by
  obtain ⟨⟨v, rfl⟩, hq, -⟩ | ⟨-, ht⟩ := bitTest_data op o s
  · simp [hq] at h
  · rw [ht]
    exact ⟨topBits_flag _ _ .n, topBits_flag _ _ .v⟩

theorem changes_bitTest_immediate_hardware (op : Byte) (v : Imm) {s : State} (hq : s.cfg.flagProfile = .hardware) :
    ChangesOnly [.flag .z] s (bitTest op (.data (.imm v)) s) := by
  obtain ⟨-, -, ht⟩ | ⟨⟨_, hmem⟩ | hsource, -⟩ := bitTest_data op (.imm v) s
  · rw [ht]
    exact changes_testZ s _ _
  · cases hmem
  · simp [hq] at hsource

theorem bitTest_frame (op : Byte) (o : DataOperand) (s : State) :
    bitTest op (.data o) s = { s with p := (bitTest op (.data o) s).p } := by
  cases o with
  | imm v => exact bitImmediate_frame op v s
  | mem m => exact bitMemory_frame op m s

theorem changes_bitTest (op : Byte) (o : DataOperand) (s : State) :
    ChangesOnly [.flag .z, .flag .n, .flag .v] s (bitTest op (.data o) s) := by
  cases o with
  | imm v => exact changes_bitImmediate s op v
  | mem m => exact changes_bitMemory s op m

/-! ### TRB and TSB (42_alu.md R190, R191) -/

/-- What TRB, or else TSB, writes back. -/
def testedBits (mn : Mnemonic) (n : Nat) (a m : BitVec n) : BitVec n := if mn = .trb then m &&& ~~~a else m ||| a

theorem exec_testAndModify {i : Instr} {m : Mode} (s : State) (hm : i.mnemonic = .trb ∨ i.mnemonic = .tsb)
    (hf : i.form = .data (.mem m)) :
    exec i s = .next ((testAndModify (testedBits i.mnemonic) i.opcode m s).advance i.length) := by
  obtain hm | hm := hm
  · rw [exec_trb s hm hf, hm]
    rfl
  · rw [exec_tsb s hm hf, hm]
    rfl

theorem testedFlags_mem (s : State) : (testedFlags s).mem = s.mem := changes_testedFlags s rfl .mem (by
  cases s.cfg.flagProfile <;> decide)

theorem testedFlags_z (s : State) : (testedFlags s).flag .z = s.flag .z := changes_testedFlags s rfl (.flag .z) (by
  cases s.cfg.flagProfile <;> decide)

/-- Memory and Z after TRB and TSB, at the width `w` that `wm` is. -/
theorem testAndModify_of_wm {s : State} {w : Width} (hw : s.wm = w) (hmem : Memory.wf s.mem = true)
    (f : (n : Nat) → BitVec n → BitVec n → BitVec n) (op : Byte) (m : Mode) :
    let ea := effectiveAddress op m s
    let t := testAndModify f op m s
    t.mem.readW w ea = f w.bits (s.acc w) (s.mem.readW w ea) ∧
    (t.flag .z = true ↔ s.acc w &&& s.mem.readW w ea = 0) ∧ memoryKeptOutside (ea.operandBytes w) s t := by
  subst hw
  intro ea t
  have ht : t.mem = (storeOperand s.wm op m (f s.wm.bits (s.acc s.wm) (s.mem.readW s.wm ea)) s).mem :=
    testedFlags_mem _
  refine ⟨?_, ?_, fun b hb => ?_⟩
  · rw [ht]
    exact Memory.readW_writeW hmem s.cfg.byteOrder s.wm ea _
  · have hz : t.flag .z = decide (s.acc s.wm &&& s.mem.readW s.wm ea = 0) := (testedFlags_z _).trans (testZ_z _ _ _)
    exact eq_true_iff_of_eq_decide hz
  · rw [ht]
    exact memoryKeptOutside_storeOperand hmem op m s.wm _ b hb

end Sys2Proof.Machine

open Sys2Proof Sys2Proof.Machine

/-- Settles O21: result and carry are read off the exact sum, V off the signed one. -/
theorem adcAddsInBinary : Obligations.AdcAddsInBinary := by
  intro i o s hm hf _ hd a v n
  refine ⟨_, exec_adc_binary hm hf hd, ?_, ?_, ?_, setArith_ends i s _⟩
  · exact (congrArg BitVec.toNat (accBecomes_setArith s _).1).trans (BitVec.toNat_ofNat _ _)
  · exact eq_true_iff_of_eq_decide (setArith_c _ _ s)
  · exact (Bool.eq_iff_iff.mp (setArith_v _ _ s)).trans (binaryAdd_overflow_iff (Width.bits_pos s.wm) a v _)

/-- Settles O22: a difference is a sum with the complement of the operand. -/
theorem sbcSubtractsInBinary : Obligations.SbcSubtractsInBinary := by
  intro i o s hm hf _ hd a v n
  refine ⟨_, exec_sbc_binary hm hf hd, ?_, ?_, ?_, setArith_ends i s _⟩
  · exact (congrArg BitVec.toNat (accBecomes_setArith s _).1).trans (BitVec.toNat_ofNat _ _)
  · exact eq_true_iff_of_eq_decide (setArith_c _ _ s)
  · exact (Bool.eq_iff_iff.mp (setArith_v _ _ s)).trans (binarySub_overflow_iff (Width.bits_pos s.wm) a v _)

/-- Settles O23: on valid BCD both rules give the definition's result, which spells the sum or the difference. -/
theorem adcAndSbcInDecimal : Obligations.AdcAndSbcInDecimal := by
  intro i o s hf _ hd hvalid n a v c
  refine ⟨fun hm => ?_, fun hm => ?_⟩
  · obtain ⟨⟨hacc, hnz, hah⟩, hc, hv⟩ := decimalOp_of_valid decimalAdd Config.decimalAdd hvalid
    obtain ⟨hbcd, hval⟩ := decimalAdd_spells s.wm (s.acc s.wm) (loadOperand s.wm i.opcode o s) (s.flag .c)
    rw [← hacc] at hnz hbcd hval
    exact ⟨_, exec_adc_decimal hm hf hd, hbcd, hval, eq_true_iff_of_eq_decide hc, hnz, hah, hv,
      decimalOp_keeps _ _ i⟩
  · obtain ⟨⟨hacc, hnz, hah⟩, hc, hv⟩ := decimalOp_of_valid decimalSub Config.decimalSub hvalid
    obtain ⟨hbcd, hval⟩ := decimalSub_spells s.wm (s.acc s.wm) (loadOperand s.wm i.opcode o s) (s.flag .c)
    rw [← hacc] at hnz hbcd hval
    exact ⟨_, exec_sbc_decimal hm hf hd, hbcd, hval, eq_true_iff_of_eq_decide hc, hnz, hah, hv,
      decimalOp_keeps _ _ i⟩

/-- Settles O24: without valid BCD the platform's function gives the result and the flags. -/
theorem decimalOnInvalidBcdStillRuns : Obligations.DecimalOnInvalidBcdStillRuns := by
  intro i o s hmn hf _ hd hinvalid
  obtain ⟨g, f, hexec, hplatform⟩ : ∃ (g : DecimalDef) (f : DecimalFn),
      exec i s = .next ((decimalOp g f s.wm (s.acc s.wm) (loadOperand s.wm i.opcode o s) s).advance i.length) ∧
      (if i.mnemonic = .adc then Config.decimalAdd else Config.decimalSub) = f := by
    obtain hm | hm := hmn
    · exact ⟨_, _, exec_adc_decimal hm hf hd, if_pos hm⟩
    · exact ⟨_, _, exec_sbc_decimal hm hf hd, if_neg (by simp [hm])⟩
  obtain ⟨hah, hall⟩ := decimalOp_of_invalid g f hinvalid
  refine ⟨_, hexec, hah, fun hrule => ?_, decimalOp_keeps g f i⟩
  obtain ⟨⟨hacc, hnz, -⟩, hc, hv⟩ := hall hrule
  rw [hplatform]
  exact ⟨hacc, hc, hv, hnz⟩

/-- Settles O25: one shared operation with each row's bitwise operation. -/
theorem logicInstructions : Obligations.LogicInstructions := by
  intro i o s hf _ a v r hr
  obtain ⟨f, hexec, rfl⟩ : ∃ f : (n : Nat) → BitVec n → BitVec n → BitVec n,
      exec i s = .next ((logic f i.opcode o s).advance i.length) ∧ f _ a v = r := by
    obtain ⟨hm, rfl⟩ | ⟨hm, rfl⟩ | ⟨hm, rfl⟩ := hr
    · exact ⟨andOf, exec_and s hm hf, rfl⟩
    · exact ⟨eorOf, exec_eor s hm hf, rfl⟩
    · exact ⟨oraOf, exec_ora s hm hf, rfl⟩
  have changes := changes_logic s f i.opcode o
  obtain ⟨hacc, hnz, hah⟩ := accBecomes_logic f i.opcode o s
  exact ⟨_, hexec, hacc, hnz, hah, flagsKept_advance_of_changesOnly changes (by simp) _,
    memoryKept_advance_of_changesOnly changes (by simp) _, congrArg (State.advance i.length) (logic_frame f _ o s)⟩

/-- Settles O26: the three compares differ in register and width only. -/
theorem compareInstructions : Obligations.CompareInstructions :=
  fun i _ s hf _ =>
    ⟨fun hm => ⟨_, exec_cmp s hm hf, setCompare_ends i s _ _⟩,
      fun hm => ⟨_, exec_cpx s hm hf, setCompare_ends i s _ _⟩,
      fun hm => ⟨_, exec_cpy s hm hf, setCompare_ends i s _ _⟩⟩

/-- Settles O27: an immediate under the hardware's profile tests Z alone, every other operand gives N and V too. -/
theorem bitTest : Obligations.BitTest := by
  intro i o s hm hf _ v
  have changes := changes_bitTest i.opcode o s
  refine ⟨_, exec_bit_data s hm hf, ?_, ?_, ?_, flagsKept_advance_of_changesOnly changes (by simp) _,
    memoryKept_advance_of_changesOnly changes (by simp) _, congrArg (State.advance i.length) (bitTest_frame _ o s)⟩
  · exact eq_true_iff_of_eq_decide (bitTest_z i.opcode o s)
  · exact bitTest_n_v i.opcode
  · rintro hq ⟨w, rfl⟩
    exact flagsKept_advance_of_changesOnly (changes_bitTest_immediate_hardware i.opcode w hq) (by simp) _

/-- Settles O28: the operand read is tested and written back at width `wm`; N and V are the profile's. -/
theorem testAndModifyBits : Obligations.TestAndModifyBits := by
  intro i m s hm hf hmem ea v8 v16
  have changes := changes_testAndModify s (testedBits i.mnemonic) i.opcode m
  refine ⟨_, exec_testAndModify s hm hf, fun h8 => ?_, fun h16 => ?_, fun hq => ?_, ?_,
    congrArg (State.advance i.length) (testAndModify_frame _ _ m s)⟩
  · have hacc : s.acc .w8 = lo s.a := setWidth_eq_lo s.a
    have hread := testAndModify_of_wm (wm_of_m8 h8) hmem (testedBits i.mnemonic) i.opcode m
    rw [hacc] at hread
    exact hread
  · have hacc : s.acc .w16 = s.a := BitVec.setWidth_eq s.a
    have hread := testAndModify_of_wm (wm_of_not_m8 h16) hmem (testedBits i.mnemonic) i.opcode m
    rw [hacc] at hread
    exact hread
  · exact flagsKept_advance_of_changesOnly changes (by simp [hq]) _
  · exact flagsKept_advance_of_changesOnly changes (by cases s.cfg.flagProfile <;> simp) _
end

section
/-! Shifts, rotates, increments and decrements: their results, flags and frames (43_shift_incdec.md R200 to R210). -/

namespace Sys2Proof.Machine

/-! ### The six operations as numbers (43_shift_incdec.md R201, R202, R205, R208 to R210) -/

/-- At every width that is not zero, the operation `f` gives the number and the carry that the spec gives the mnemonic;
where `f` gives no carry, the old one stays. -/
def Modify.Computes (f : Modify) (mn : Mnemonic) : Prop :=
  ∀ (n : Nat) (c : Bool) (m : BitVec n), 0 < n →
    modifiesTo mn n c m.toNat (f n c m).value.toNat ((f n c m).carry.getD c)

theorem toNat_carryBits {n : Nat} (hn : 0 < n) (c : Bool) : (carryBits n c).toNat = c.toNat := by
  have hc : c.toNat < 2 ^ n := c.toNat_lt.trans_le (Nat.le_self_pow hn.ne' 2)
  rw [carryBits, BitVec.toNat_ofNat, Nat.mod_eq_of_lt hc]

theorem toNat_shiftLeft_one {n : Nat} (m : BitVec n) : (m <<< 1).toNat = 2 * m.toNat % 2 ^ n := by
  rw [BitVec.toNat_shiftLeft, Nat.shiftLeft_eq, Nat.mul_comm, Nat.pow_one]

theorem toNat_ushiftRight_one {n : Nat} (m : BitVec n) : (m >>> 1).toNat = m.toNat / 2 := by
  rw [BitVec.toNat_ushiftRight, Nat.shiftRight_eq_div_pow, Nat.pow_one]

/-- The bit a left shift drops is the carry of doubling. -/
theorem msb_eq_decide_two_mul {n : Nat} (hn : 0 < n) (m : BitVec n) : m.msb = decide (2 ^ n ≤ 2 * m.toNat) := by
  obtain ⟨k, rfl⟩ : ∃ k, n = k + 1 := ⟨n - 1, by omega⟩
  rw [BitVec.msb_eq_decide, Nat.add_sub_cancel, decide_eq_decide, Nat.pow_succ]
  omega

/-- The bit a right shift drops is the remainder of halving. -/
theorem getLsbD_zero_eq_decide {n : Nat} (m : BitVec n) : m.getLsbD 0 = decide (m.toNat % 2 = 1) := by
  rw [BitVec.getLsbD, Nat.testBit_zero]

/-- The carry enters the empty bit 0, so `or` is a sum there. -/
theorem shiftLeft_or_carryBits {n : Nat} (c : Bool) (m : BitVec n) :
    m <<< 1 ||| carryBits n c = m <<< 1 + carryBits n c := by
  refine (BitVec.add_eq_or_of_and_eq_zero _ _ ?_).symm
  ext j hj
  cases j with
  | zero => simp
  | succ j => cases c <;> simp [carryBits]

/-- The carry enters the empty top bit, so `or` is a sum there. -/
theorem ushiftRight_or_carryBits {k : Nat} (c : Bool) (m : BitVec (k + 1)) :
    m >>> 1 ||| carryBits (k + 1) c <<< k = m >>> 1 + carryBits (k + 1) c <<< k := by
  refine (BitVec.add_eq_or_of_and_eq_zero _ _ ?_).symm
  ext j hj
  obtain hlow | rfl : j < k ∨ j = k := by omega
  · simp [hlow]
  · simp

theorem aslOf_computes : Modify.Computes aslOf .asl := fun _ _ m hn =>
  ⟨toNat_shiftLeft_one m, msb_eq_decide_two_mul hn m⟩

theorem lsrOf_computes : Modify.Computes lsrOf .lsr := fun _ _ m _ =>
  ⟨toNat_ushiftRight_one m, getLsbD_zero_eq_decide m⟩

theorem rolOf_computes : Modify.Computes rolOf .rol := fun n c m hn => by
  refine ⟨?_, msb_eq_decide_two_mul hn m⟩
  calc (m <<< 1 ||| carryBits n c).toNat
      = (2 * m.toNat % 2 ^ n + c.toNat) % 2 ^ n := by
        rw [shiftLeft_or_carryBits, BitVec.toNat_add, toNat_shiftLeft_one, toNat_carryBits hn]
    _ = (2 * m.toNat + c.toNat) % 2 ^ n := Nat.mod_add_mod _ _ _

theorem rorOf_computes : Modify.Computes rorOf .ror := fun n c m hn => by
  refine ⟨?_, getLsbD_zero_eq_decide m⟩
  obtain ⟨k, rfl⟩ : ∃ k, n = k + 1 := ⟨n - 1, by omega⟩
  have hm := m.isLt
  have hc := Bool.toNat_le c
  have hcarry : c.toNat * 2 ^ k ≤ 1 * 2 ^ k := Nat.mul_le_mul_right _ hc
  rw [Nat.pow_succ] at hm
  calc (m >>> 1 ||| carryBits (k + 1) c <<< k).toNat
      = (m.toNat / 2 + c.toNat * 2 ^ k % 2 ^ (k + 1)) % 2 ^ (k + 1) := by
        rw [ushiftRight_or_carryBits, BitVec.toNat_add, toNat_ushiftRight_one, BitVec.toNat_shiftLeft,
          toNat_carryBits hn, Nat.shiftLeft_eq]
    _ = m.toNat / 2 + c.toNat * 2 ^ k := by
        rw [Nat.add_mod_mod, Nat.pow_succ]
        exact Nat.mod_eq_of_lt (by omega)
    _ = (m.toNat + 2 ^ (k + 1) * c.toNat) / 2 := by
        rw [Nat.pow_succ, Nat.mul_right_comm, Nat.mul_comm (2 ^ k)]
        omega

theorem incOf_computes : Modify.Computes incOf .inc := fun n _ m hn => by
  have hone : (1 : BitVec n).toNat = 1 := BitVec.toNat_one hn
  refine ⟨?_, rfl⟩
  rw [incOf, BitVec.toNat_add, hone]

theorem decOf_computes : Modify.Computes decOf .dec := fun n _ m hn => by
  have hone : (1 : BitVec n).toNat = 1 := BitVec.toNat_one hn
  refine ⟨?_, rfl⟩
  rw [decOf, BitVec.toNat_sub, hone, Nat.add_comm]

/-! ### What the six operations run and write, by their rows of the access matrix (43_shift_incdec.md R200) -/

section
variable {i : Instr} (hm : i.mnemonic ∈ [.asl, .lsr, .rol, .ror, .inc, .dec])
include hm

/-- The six mnemonics run one shared operation on their accumulator or memory form, each with its own function. -/
theorem exec_modify (s : State) :
    ∃ f : Modify, f.Computes i.mnemonic ∧ exec i s = .next ((modify f i.opcode i.form s).advance i.length) := by
  have hexec {mn : Mnemonic} (f : Modify) (hmn : i.mnemonic = mn) (hf : f.Computes mn) (hseq : i.sequential = true)
      (heff : mnemonicEffect mn i.opcode i.form s = modify f i.opcode i.form s) :
      ∃ f : Modify, f.Computes i.mnemonic ∧ exec i s = .next ((modify f i.opcode i.form s).advance i.length) := by
    refine ⟨f, hmn ▸ hf, ?_⟩
    rw [exec_eq_effect, if_pos hseq, effectOf, hmn, heff]
  simp only [List.mem_cons, List.not_mem_nil, or_false] at hm
  obtain h | h | h | h | h | h := hm
  · exact hexec aslOf h aslOf_computes (by simp [Instr.sequential, h]) rfl
  · exact hexec lsrOf h lsrOf_computes (by simp [Instr.sequential, h]) rfl
  · exact hexec rolOf h rolOf_computes (by simp [Instr.sequential, h]) rfl
  · exact hexec rorOf h rorOf_computes (by simp [Instr.sequential, h]) rfl
  · exact hexec incOf h incOf_computes (by simp [Instr.sequential, h]) rfl
  · exact hexec decOf h decOf_computes (by simp [Instr.sequential, h]) rfl

theorem writesOf_modify (q : FlagProfile) :
    writesOf q i ⊆ modifiedFields i.form ++ .flag .c :: nzFields := by
  have hinc : modifiedFields i.form ++ nzFields ⊆ modifiedFields i.form ++ .flag .c :: nzFields :=
    ((List.sublist_cons_self _ _).append_left _).subset
  simp only [List.mem_cons, List.not_mem_nil, or_false] at hm
  unfold writesOf
  obtain h | h | h | h | h | h := hm <;> rw [h]
  iterate 4 exact List.Subset.refl _
  · exact hinc
  · exact hinc

variable {s t : State} (h : exec i s = .next t)
include h

theorem changes_exec_modify : ChangesOnly (modifiedFields i.form ++ .flag .c :: nzFields ++ [.pc]) s t :=
  (changes_exec h).mono <| List.append_subset.mpr
    ⟨List.subset_append_of_subset_left _ (writesOf_modify hm _), List.subset_append_right _ _⟩

theorem flagsKept_exec_modify : flagsKept [.n, .z, .c] s t := fun f hf =>
  changes_exec_modify hm h (.flag f) <| by
    have hfm := flag_not_mem_modifiedFields f i.form
    simp only [List.mem_cons, List.not_mem_nil, not_or] at hf
    simp [hfm, hf]

theorem memoryKept_exec_modify_acc (hf : i.form = .acc) : memoryKept s t := fun b => by
  have hmem : t.mem = s.mem := changes_exec_modify hm h .mem (by simp [hf])
  rw [hmem]

end

/-! ### Values and carries -/

/-- C after a read-modify-write operation: the new one, or the old one where the operation gives none. -/
theorem setCarry_setNZ_c {n : Nat} (c : Option Bool) (v : BitVec n) (s : State) :
    ((s.setCarry c).setNZ v).flag .c = c.getD (s.flag .c) := by
  cases c <;> simp

theorem accBecomes_modifyAcc (f : Modify) (s : State) :
    AccBecomes s (modifyAcc f s) (f s.wm.bits (s.flag .c) (s.acc s.wm)).value := by
  have ha : (modifyAcc f s).a = (s.setAcc s.wm (f s.wm.bits (s.flag .c) (s.acc s.wm)).value).a :=
    setCarry_a_same _ _
  refine ⟨?_, nzOf_setNZ _ _, fun h8 => ?_⟩
  · rw [State.acc, ha]
    exact acc_setAcc _ _ s
  · rw [ha]
    exact hi_setAcc_of_m8 rfl _ h8

theorem modifyAcc_c (f : Modify) (s : State) :
    (modifyAcc f s).flag .c = (f s.wm.bits (s.flag .c) (s.acc s.wm)).carry.getD (s.flag .c) := by
  have hkept : (s.setAcc s.wm (f s.wm.bits (s.flag .c) (s.acc s.wm)).value).flag .c = s.flag .c :=
    changes_setAcc s _ _ (.flag .c) (by simp)
  rw [modifyAcc, setCarry_setNZ_c, hkept]

/-- The operand in memory and the flags after a read-modify-write operation, at the width `w` that `wm` is. -/
theorem modifyMemory_of_wm {s : State} {w : Width} (hw : s.wm = w) (hmem : Memory.wf s.mem = true) {f : Modify}
    {mn : Mnemonic} (hf : f.Computes mn) (op : Byte) (m : Mode) :
    let ea := effectiveAddress op m s
    let t := modifyMemory f op m s
    modifiesTo mn w.bits (s.flag .c) (s.mem.readW w ea).toNat (t.mem.readW w ea).toNat (t.flag .c) ∧
    nzOf (t.mem.readW w ea) t ∧ memoryKeptOutside (ea.operandBytes w) s t := by
  subst hw
  intro ea t
  let r := f s.wm.bits (s.flag .c) (s.mem.readW s.wm ea)
  have ht : t.mem = (storeOperand s.wm op m r.value s).mem := setCarry_mem_same _ _
  have hc : t.flag .c = r.carry.getD (s.flag .c) := setCarry_setNZ_c _ _ _
  have hread : t.mem.readW s.wm ea = r.value := by
    rw [ht]
    exact Memory.readW_writeW hmem s.cfg.byteOrder s.wm ea _
  rw [hread, hc]
  refine ⟨hf _ _ _ (Width.bits_pos _), nzOf_setNZ _ _, fun b hb => ?_⟩
  rw [ht]
  exact memoryKeptOutside_storeOperand hmem op m s.wm _ b hb

/-! ### INX, DEX, INY and DEY (43_shift_incdec.md R203, R204, R206, R207) -/

theorem stepX_ends (f : Modify) (s : State) :
    let v := (f s.wx.bits (s.flag .c) (s.xLow s.wx)).value
    let t := (stepX f s).advance 1
    t.x = v.setWidth 16 ∧ nzOf v t ∧ flagsKept [.n, .z] s t ∧ memoryKept s t ∧
      t = { s with x := t.x, p := t.p, pc := s.pc + 1 } := by
  have changes := changes_stepX s f
  exact ⟨rfl, nzOf_setNZ _ _, flagsKept_advance_of_changesOnly changes (by simp) _,
    memoryKept_advance_of_changesOnly changes (by simp) _, congrArg (State.advance 1) (stepX_frame f s)⟩

theorem stepY_ends (f : Modify) (s : State) :
    let v := (f s.wx.bits (s.flag .c) (s.yLow s.wx)).value
    let t := (stepY f s).advance 1
    t.y = v.setWidth 16 ∧ nzOf v t ∧ flagsKept [.n, .z] s t ∧ memoryKept s t ∧
      t = { s with y := t.y, p := t.p, pc := s.pc + 1 } := by
  have changes := changes_stepY s f
  exact ⟨rfl, nzOf_setNZ _ _, flagsKept_advance_of_changesOnly changes (by simp) _,
    memoryKept_advance_of_changesOnly changes (by simp) _, congrArg (State.advance 1) (stepY_frame f s)⟩

end Sys2Proof.Machine

open Sys2Proof Sys2Proof.Machine

/-- Settles O29: the operand read at width `wm` is written back as its mnemonic's number. -/
theorem readModifyWriteOnMemory : Obligations.ReadModifyWriteOnMemory := by
  intro i m s hm hf hmem ea wordAt
  obtain ⟨f, hcomputes, hexec⟩ := exec_modify hm s
  have hkept := flagsKept_exec_modify hm hexec
  rw [hf] at hexec hkept
  exact ⟨_, hexec, fun h8 => modifyMemory_of_wm (wm_of_m8 h8) hmem hcomputes i.opcode m,
    fun h16 => modifyMemory_of_wm (wm_of_not_m8 h16) hmem hcomputes i.opcode m, hkept,
    congrArg (State.advance i.length) (modifyMemory_frame f _ m s)⟩

/-- Settles O30: the accumulator at width `wm` becomes its mnemonic's number. -/
theorem readModifyWriteOnTheAccumulator : Obligations.ReadModifyWriteOnTheAccumulator := by
  intro i s hm hf
  obtain ⟨f, hcomputes, hexec⟩ := exec_modify hm s
  have hkept := flagsKept_exec_modify hm hexec
  have hmem := memoryKept_exec_modify_acc hm hexec hf
  have hlen : i.length = 1 := by rw [Instr.length, hf, Form.length]
  obtain ⟨hacc, hnz, hah⟩ := accBecomes_modifyAcc f s
  have hvalue := hcomputes _ (s.flag .c) (s.acc s.wm) (Width.bits_pos s.wm)
  rw [← hacc, ← modifyAcc_c] at hvalue
  rw [← hacc] at hnz
  rw [hf, hlen] at hexec hkept hmem
  exact ⟨_, hexec, hvalue, hnz, hah, hkept, hmem, congrArg (State.advance 1) (modifyAcc_frame f s)⟩

/-- Settles O31: one shared operation for each index register, with the function of INC or of DEC. -/
theorem indexRegistersCount : Obligations.IndexRegistersCount := fun s =>
  ⟨⟨_, rfl, stepX_ends incOf s⟩, ⟨_, rfl, stepX_ends decOf s⟩, ⟨_, rfl, stepY_ends incOf s⟩,
    ⟨_, rfl, stepY_ends decOf s⟩⟩
end

section
/-! Bytes pushed and pulled in a row: where they are on the stack, and that pulls give back what pushes left
(20_memory.md R75 to R80). -/

namespace Sys2Proof.Machine

/-! ### The slots of a row of pushes -/

/-- In both modes the low byte of `S` counts down, modulo 256 (20_memory.md R75, R80). -/
theorem lo_pushedSp (e : Bool) (w : Word) : lo (pushedSp e w) = lo w - 1 := by
  cases e with
  | true => exact lo_pushedSp_emulation w
  | false =>
    have h := pushedSp_native_toNat w
    apply BitVec.eq_of_toNat_eq
    rw [lo_toNat, h, BitVec.toNat_sub, lo_toNat, show (1 : Byte).toNat = 1 from rfl]
    omega

theorem lo_pushedSpBy (e : Bool) (k : Nat) (w : Word) : lo (pushedSpBy e k w) = lo w - BitVec.ofNat 8 k := by
  induction k with
  | zero => simp [pushedSpBy]
  | succ k ih =>
    rw [pushedSpBy, lo_pushedSp, ih, BitVec.ofNat_add, BitVec.sub_sub]
    rfl

/-- Up to 256 pushes in a row write different bytes, wherever in its page `S` is. -/
theorem pushAddr_ne (s : State) {j k : Nat} (hj : j < 256) (hk : k < 256) (hjk : j ≠ k) :
    s.pushAddr j ≠ s.pushAddr k := by
  intro h
  have hsp : pushedSpBy s.e j s.sp = pushedSpBy s.e k s.sp := ((addr_inj _ _ _ _).mp h).2
  have hlo := congrArg lo hsp
  rw [lo_pushedSpBy, lo_pushedSpBy] at hlo
  have hnat := congrArg BitVec.toNat hlo
  simp only [BitVec.toNat_sub, BitVec.toNat_ofNat] at hnat
  have := (lo s.sp).isLt
  omega

/-! ### Pushes in a row, one byte more at a time -/

theorem pushedBytes_nil (s : State) : pushedBytes [] s s :=
  ⟨fun _ h => absurd h (Nat.not_lt_zero _), fun _ _ => rfl, rfl⟩

/-- One more byte pushed, as long as the pushes have not come round the page. -/
theorem pushedBytes_push8 {bs : List Byte} {s t : State} (hp : pushedBytes bs s t) (hw : Memory.wf t.mem = true)
    (he : t.e = s.e) (hlen : bs.length < 256) (v : Byte) : pushedBytes (bs ++ [v]) s (t.push8 v) := by
  obtain ⟨hread, hkept, hsp⟩ := hp
  have hslot : addr 0 t.sp = s.pushAddr bs.length := by rw [hsp, State.pushAddr]
  have hmem : (t.push8 v).mem = t.mem.write (s.pushAddr bs.length) v := by rw [push8_mem, hslot]
  refine ⟨fun k hk => ?_, fun b hb => ?_, ?_⟩
  · rw [List.length_append, List.length_singleton] at hk
    rw [hmem, Memory.read_write hw]
    obtain hlt | rfl : k < bs.length ∨ k = bs.length := by omega
    · rw [if_neg (pushAddr_ne s (by omega) hlen (by omega)), hread k hlt, List.getElem_append_left hlt]
    · rw [if_pos rfl, List.getElem_concat_length rfl]
  · rw [List.length_append, List.length_singleton, List.range_succ, List.map_append, List.mem_append, not_or,
      List.map_singleton, List.mem_singleton] at hb
    obtain ⟨hearlier, hlast⟩ := hb
    rw [hmem, Memory.read_write_ne hw v hlast, hkept b hearlier]
  · rw [push8_sp, hsp, he, List.length_append, List.length_singleton, pushedSpBy]

/-- A word pushed is its high byte and then its low byte (20_memory.md R76). -/
theorem pushedBytes_push16 {bs : List Byte} {s t : State} (hp : pushedBytes bs s t) (hw : Memory.wf t.mem = true)
    (he : t.e = s.e) (hlen : bs.length < 255) (v : Word) : pushedBytes (bs ++ [hi v, lo v]) s (t.push16 v) := by
  have hhigh := pushedBytes_push8 hp hw he (by omega) (hi v)
  have hboth := pushedBytes_push8 hhigh (wf_push8 hw _) he
    (by rw [List.length_append, List.length_singleton]; omega) (lo v)
  rwa [List.append_assoc] at hboth

/-! ### Pulls after pushes -/

/-- Pulls bring `S` back up the slots of the pushes. -/
theorem pulledSpBy_pushedSpBy (e : Bool) (j k : Nat) (w : Word) :
    pulledSpBy e k (pushedSpBy e (j + k) w) = pushedSpBy e j w := by
  induction k generalizing j with
  | zero => rfl
  | succ k ih => rw [pulledSpBy, show j + (k + 1) = j + 1 + k by omega, ih, pushedSpBy, pulledSp_pushedSp]

section
variable {bs : List Byte} {s t : State} (hp : pushedBytes bs s t) (he : t.e = s.e)
include hp he

/-- As many pulls as pushes leave `S` where it was. -/
theorem pulledSpBy_of_pushedBytes : pulledSpBy t.e bs.length t.sp = s.sp := by
  obtain ⟨-, -, hsp⟩ := hp
  have h := pulledSpBy_pushedSpBy s.e 0 bs.length s.sp
  rwa [Nat.zero_add, ← hsp, ← he] at h

/-- The bytes come back in reverse: the last one pushed is the first one pulled. -/
theorem pullByte_of_pushedBytes {j k : Nat} (h : j + (k + 1) = bs.length) :
    t.pullByte k = bs[j]'(by omega) := by
  obtain ⟨hread, -, hsp⟩ := hp
  have hslot : addr 0 (pulledSpBy t.e (k + 1) t.sp) = s.pushAddr j := by
    rw [hsp, he, ← h, pulledSpBy_pushedSpBy, State.pushAddr]
  rw [State.pullByte, hslot, hread]

end

end Sys2Proof.Machine
end

section
/-! Branches, jumps, calls and returns (44_branch_jump.md R220 to R236). -/

namespace Sys2Proof.Machine

/-! ### Branches and jumps -/

/-- A branch target as a number: the address after `k` bytes of instruction and the signed displacement, modulo `2^16`
(44_branch_jump.md R220). -/
theorem branchTarget_eq_ofInt (pc : Word) (k : Nat) (d : Int) :
    branchTarget (pc + BitVec.ofNat 16 k) (BitVec.ofInt 16 d) = BitVec.ofInt 16 (pc.toNat + k + d) := by
  rw [branchTarget, BitVec.ofInt_add, BitVec.ofInt_add, BitVec.ofInt_natCast, BitVec.ofInt_natCast,
    BitVec.ofNat_toNat, BitVec.setWidth_eq]

/-- A short branch changes `PC` alone. -/
theorem branchIf_eq (taken : Bool) (rel : Byte) (s : State) :
    branchIf taken rel s =
      { s with pc := if taken then BitVec.ofInt 16 (s.pc.toNat + 2 + rel.toInt) else s.pc + 2 } := by
  have htarget : branchTarget (s.pc + 2) (sext16 rel) = BitVec.ofInt 16 (s.pc.toNat + 2 + rel.toInt) :=
    branchTarget_eq_ofInt s.pc 2 rel.toInt
  rw [branchIf, htarget]

/-- The word at a pointer in bank 0 (40_addressing_modes.md R141). -/
theorem read16_pointerEA (m : Memory) (w : Word) :
    m.read16 (pointerEA w) = word (m.read (addr 0 (w + 1))) (m.read (addr 0 w)) := by
  simp [Memory.read16, EA.byte, nextAddr, pointerEA]

/-- The three bytes at a pointer in bank 0 (40_addressing_modes.md R143). -/
theorem read24_pointerEA (m : Memory) (w : Word) :
    m.read24 (pointerEA w) =
      addr (m.read (addr 0 (w + 2))) (word (m.read (addr 0 (w + 1))) (m.read (addr 0 w))) := by
  rw [Memory.read24, read16_pointerEA]
  simp [EA.byte, nextAddr, pointerEA]

/-- The word in a table of the program bank, indexed by `X` (40_addressing_modes.md R142). -/
theorem read16_tableEA (m : Memory) (w : Word) (s : State) :
    m.read16 (tableEA w s) =
      word (m.read (addr s.pbr (w + s.x + 1))) (m.read (addr s.pbr (w + s.x))) := by
  simp [Memory.read16, EA.byte, nextAddr, tableEA]

/-! ### Calls -/

section
variable {s : State} (h : Memory.wf s.mem = true)
include h

theorem pushedBytes_pushReturn : pushedBytes [hi (s.pc + 2), lo (s.pc + 2)] s (pushReturn s) :=
  pushedBytes_push16 (pushedBytes_nil s) h rfl (by decide) (s.pc + 2)

theorem pushedBytes_callLong (l : Addr) :
    pushedBytes [s.pbr, hi (s.pc + 3), lo (s.pc + 3)] s (callLong l s) := by
  have hbank : pushedBytes [s.pbr] s (s.push8 s.pbr) := pushedBytes_push8 (pushedBytes_nil s) h rfl (by decide) _
  exact pushedBytes_push16 hbank (wf_push8 h _) rfl (by simp) (s.pc + 3)

end

/-! ### Returns -/

/-- RTS and RTL as the bytes they pull (44_branch_jump.md R234, R235). -/
theorem returnNear_eq (s : State) :
    returnNear s = { s with pc := word (s.pullByte 1) (s.pullByte 0) + 1, sp := pulledSpBy s.e 2 s.sp } := rfl

theorem returnLong_eq (s : State) :
    returnLong s =
      { s with pc := word (s.pullByte 1) (s.pullByte 0) + 1, pbr := s.pullByte 2, sp := pulledSpBy s.e 3 s.sp } := rfl

/-- A near return after a near call, wherever the call went: `PC` is one past the word pushed, and every register but
it is as before. -/
theorem returnNear_of_pushedBytes {s t : State} {ret : Word} (hp : pushedBytes [hi ret, lo ret] s t)
    (hframe : t = { s with mem := t.mem, sp := t.sp, pc := t.pc }) :
    returnNear t = { s with mem := t.mem, pc := ret + 1 } := by
  have he : t.e = s.e := by rw [hframe]
  have hsp : pulledSpBy t.e 2 t.sp = s.sp := pulledSpBy_of_pushedBytes hp he
  have hlow : t.pullByte 0 = lo ret := pullByte_of_pushedBytes (j := 1) hp he rfl
  have hhigh : t.pullByte 1 = hi ret := pullByte_of_pushedBytes (j := 0) hp he rfl
  rw [returnNear_eq, hsp, hlow, hhigh, word_hi_lo]
  exact congrArg (fun u : State => { u with sp := s.sp, pc := ret + 1 }) hframe

/-- A long return after a long call: `PBR` is as before too. -/
theorem returnLong_of_pushedBytes {s t : State} {ret : Word} (hp : pushedBytes [s.pbr, hi ret, lo ret] s t)
    (hframe : t = { s with mem := t.mem, sp := t.sp, pc := t.pc, pbr := t.pbr }) :
    returnLong t = { s with mem := t.mem, pc := ret + 1 } := by
  have he : t.e = s.e := by rw [hframe]
  have hsp : pulledSpBy t.e 3 t.sp = s.sp := pulledSpBy_of_pushedBytes hp he
  have hlow : t.pullByte 0 = lo ret := pullByte_of_pushedBytes (j := 2) hp he rfl
  have hhigh : t.pullByte 1 = hi ret := pullByte_of_pushedBytes (j := 1) hp he rfl
  have hbank : t.pullByte 2 = s.pbr := pullByte_of_pushedBytes (j := 0) hp he rfl
  rw [returnLong_eq, hsp, hlow, hhigh, hbank, word_hi_lo]
  exact congrArg (fun u : State => { u with sp := s.sp, pc := ret + 1, pbr := s.pbr }) hframe

end Sys2Proof.Machine

open Sys2Proof Sys2Proof.Machine

/-- Settles O32: nine short branches, each on its own condition, and the long one. -/
theorem branches : Obligations.Branches := by
  intro s rel rell target goes
  have short (taken : Bool) : Host.Outcome.next (branchIf taken rel s) = (.next (goes taken) : Result) :=
    congrArg _ (branchIf_eq taken rel s)
  have long : branchTarget (s.pc + 3) rell = BitVec.ofInt 16 (s.pc.toNat + 3 + rell.toInt) := by
    have h := branchTarget_eq_ofInt s.pc 3 rell.toInt
    rwa [BitVec.ofInt_toInt] at h
  exact ⟨short _, short _, short _, short _, short _, short _, short _, short _, short _,
    congrArg (fun pc => (.next { s with pc := pc } : Result)) long⟩

/-- Settles O35: what is pushed is read off the call, and its frame says that nothing else changes. -/
theorem subroutineCalls : Obligations.SubroutineCalls := by
  intro s w l h
  have hnear := pushedBytes_pushReturn h
  refine ⟨⟨callAbs w s, rfl, hnear, callAbs_frame w s⟩, ⟨callTable w s, rfl, hnear, ?_⟩,
    ⟨callLong l s, rfl, pushedBytes_callLong h l, callLong_frame l s⟩⟩
  rw [← read16_tableEA]
  exact callTable_frame w s

/-- Settles O37: each call leaves its return address on the stack, and its return pulls it. -/
theorem callsAndReturnsPair : Obligations.CallsAndReturnsPair := by
  intro s t w l ⟨hmem, _⟩
  have next_near : s.pc + 2 + 1 = s.pc + 3 := BitVec.add_assoc _ _ _
  have next_long : s.pc + 3 + 1 = s.pc + 4 := BitVec.add_assoc _ _ _
  rw [← next_near, ← next_long]
  have hnear := pushedBytes_pushReturn hmem
  refine ⟨fun hcall => ?_, fun hcall => ?_, fun hcall => ?_⟩
  · obtain rfl : callAbs w s = t := Host.Outcome.next.inj hcall
    exact congrArg _ (returnNear_of_pushedBytes (t := callAbs w s) hnear (callAbs_frame w s))
  · obtain rfl : callTable w s = t := Host.Outcome.next.inj hcall
    exact congrArg _ (returnNear_of_pushedBytes (t := callTable w s) hnear (callTable_frame w s))
  · obtain rfl : callLong l s = t := Host.Outcome.next.inj hcall
    exact congrArg _ (returnLong_of_pushedBytes (pushedBytes_callLong hmem l) (callLong_frame l s))

/-- Settles O33: the target is the operand, or the word its pointer reads. -/
theorem jumpsInsideTheBank : Obligations.JumpsInsideTheBank := by
  intro s w
  rw [← read16_pointerEA, ← read16_tableEA]
  exact ⟨rfl, rfl, rfl⟩

/-- Settles O34: `PC` and `PBR` are the offset and the bank of the target. -/
theorem longJumps : Obligations.LongJumps := by
  intro s l w
  have hjump (b : Byte) (pc : Word) : jumpLong (addr b pc) s = { s with pc := pc, pbr := b } := by
    rw [jumpLong, offset_addr, bank_addr]
  refine ⟨rfl, ?_⟩
  rw [← hjump, ← read24_pointerEA]
  rfl

/-- Settles O36: the model's returns, written as the bytes they pull. -/
theorem subroutineReturns : Obligations.SubroutineReturns := fun s =>
  ⟨congrArg Host.Outcome.next (returnNear_eq s), congrArg Host.Outcome.next (returnLong_eq s)⟩
end

section
/-! Pushes and pulls (45_stack.md R250 to R266). -/

namespace Sys2Proof.Machine

/-! ### Pushes: what is on the stack, and that only memory and `S` change -/

theorem push8_frame (v : Byte) (s : State) :
    s.push8 v = { s with mem := (s.push8 v).mem, sp := (s.push8 v).sp } := rfl

theorem push16_frame (v : Word) (s : State) :
    s.push16 v = { s with mem := (s.push16 v).mem, sp := (s.push16 v).sp } := rfl

section
variable {s : State} (h : Memory.wf s.mem = true) (k : Nat)
include h

theorem push8_ends (v : Byte) :
    let t := (s.push8 v).advance k
    pushedBytes [v] s t ∧ t = { s with mem := t.mem, sp := t.sp, pc := s.pc + BitVec.ofNat 16 k } :=
  ⟨pushedBytes_push8 (pushedBytes_nil s) h rfl (by decide) v, congrArg (State.advance k) (push8_frame v s)⟩

/-- The high byte of a word is pushed first (20_memory.md R76). -/
theorem push16_ends (v : Word) :
    let t := (s.push16 v).advance k
    pushedBytes [hi v, lo v] s t ∧ t = { s with mem := t.mem, sp := t.sp, pc := s.pc + BitVec.ofNat 16 k } :=
  ⟨pushedBytes_push16 (pushedBytes_nil s) h rfl (by decide) v, congrArg (State.advance k) (push16_frame v s)⟩

/-- A register pushed at a width: its low byte where `narrow` holds, else both bytes (45_stack.md R250). -/
theorem pushW_ends (narrow : Bool) (r : Word) :
    let t := (s.pushW (Width.of narrow) (r.setWidth (Width.of narrow).bits)).advance k
    (narrow = true → pushedBytes [lo r] s t) ∧ (narrow = false → pushedBytes [hi r, lo r] s t) ∧
      t = { s with mem := t.mem, sp := t.sp, pc := s.pc + BitVec.ofNat 16 k } := by
  cases narrow with
  | true =>
    have hr : r.setWidth (Width.of true).bits = lo r := setWidth_eq_lo r
    rw [hr]
    obtain ⟨hpushed, hframe⟩ := push8_ends h k (lo r)
    exact ⟨fun _ => hpushed, nofun, hframe⟩
  | false =>
    have hr : r.setWidth (Width.of false).bits = r := BitVec.setWidth_eq r
    rw [hr]
    obtain ⟨hpushed, hframe⟩ := push16_ends h k r
    exact ⟨nofun, fun _ => hpushed, hframe⟩

end

/-! ### Pulls into the accumulator and the index registers -/

section
variable {s : State} {w : Width}

theorem pullA_of_wm (h : s.wm = w) :
    pullA s = ((s.pullW w).2.setAcc w (s.pullW w).1).setNZ (s.pullW w).1 := by
  subst h
  rfl

theorem pullX_of_wx (h : s.wx = w) :
    pullX s = ((s.pullW w).2.setX (s.pullW w).1).setNZ (s.pullW w).1 := by
  subst h
  rfl

theorem pullY_of_wx (h : s.wx = w) :
    pullY s = ((s.pullW w).2.setY (s.pullW w).1).setNZ (s.pullW w).1 := by
  subst h
  rfl

end

/-- An operation that changes neither memory nor a flag other than N and Z keeps the other six flags and memory, and so
does going on to the next instruction. -/
theorem keptButNZ_of_changesOnly {ws : List StateField} {s t : State} (h : ChangesOnly ws s t) (hm : .mem ∉ ws)
    (hf : ∀ f, .flag f ∈ ws → f ∈ [Flag.n, .z]) (k : Nat) :
    flagsKept [.n, .z] s (t.advance k) ∧ memoryKept s (t.advance k) :=
  ⟨flagsKept_advance_of_changesOnly h hf k, memoryKept_advance_of_changesOnly h hm k⟩

/-- PLA by the bytes it pulls (45_stack.md R261). -/
theorem pullA_ends (s : State) :
    let t := (pullA s).advance 1
    (s.m8 = true → t.a = word (hi s.a) (s.pullByte 0) ∧ nzOf (s.pullByte 0) t ∧ t.sp = pulledSpBy s.e 1 s.sp) ∧
    (s.m8 = false → t.a = word (s.pullByte 1) (s.pullByte 0) ∧ nzOf (word (s.pullByte 1) (s.pullByte 0)) t ∧
      t.sp = pulledSpBy s.e 2 s.sp) ∧
    flagsKept [.n, .z] s t ∧ memoryKept s t ∧ t = { s with a := t.a, p := t.p, sp := t.sp, pc := s.pc + 1 } := by
  obtain ⟨hflags, hmem⟩ := keptButNZ_of_changesOnly (changes_pullA s) (by simp) (by simp) 1
  refine ⟨fun h8 => ?_, fun h16 => ?_, hflags, hmem, congrArg (State.advance 1) (pullA_frame s)⟩
  · rw [pullA_of_wm (wm_of_m8 h8)]
    exact ⟨rfl, nzOf_setNZ _ _, rfl⟩
  · rw [pullA_of_wm (wm_of_not_m8 h16)]
    exact ⟨rfl, nzOf_setNZ _ _, rfl⟩

/-- PLX by the bytes it pulls (45_stack.md R265). -/
theorem pullX_ends (s : State) :
    let t := (pullX s).advance 1
    (s.x8 = true → t.x = word 0 (s.pullByte 0) ∧ nzOf (s.pullByte 0) t ∧ t.sp = pulledSpBy s.e 1 s.sp) ∧
    (s.x8 = false → t.x = word (s.pullByte 1) (s.pullByte 0) ∧ nzOf (word (s.pullByte 1) (s.pullByte 0)) t ∧
      t.sp = pulledSpBy s.e 2 s.sp) ∧
    flagsKept [.n, .z] s t ∧ memoryKept s t ∧ t = { s with x := t.x, p := t.p, sp := t.sp, pc := s.pc + 1 } := by
  obtain ⟨hflags, hmem⟩ := keptButNZ_of_changesOnly (changes_pullX s) (by simp) (by simp) 1
  refine ⟨fun h8 => ?_, fun h16 => ?_, hflags, hmem, congrArg (State.advance 1) (pullX_frame s)⟩
  · rw [pullX_of_wx (wx_of_x8 h8)]
    exact ⟨setWidth_eq_word _, nzOf_setNZ _ _, rfl⟩
  · rw [pullX_of_wx (wx_of_not_x8 h16)]
    exact ⟨BitVec.setWidth_eq _, nzOf_setNZ _ _, rfl⟩

/-- PLY by the bytes it pulls (45_stack.md R266). -/
theorem pullY_ends (s : State) :
    let t := (pullY s).advance 1
    (s.x8 = true → t.y = word 0 (s.pullByte 0) ∧ nzOf (s.pullByte 0) t ∧ t.sp = pulledSpBy s.e 1 s.sp) ∧
    (s.x8 = false → t.y = word (s.pullByte 1) (s.pullByte 0) ∧ nzOf (word (s.pullByte 1) (s.pullByte 0)) t ∧
      t.sp = pulledSpBy s.e 2 s.sp) ∧
    flagsKept [.n, .z] s t ∧ memoryKept s t ∧ t = { s with y := t.y, p := t.p, sp := t.sp, pc := s.pc + 1 } := by
  obtain ⟨hflags, hmem⟩ := keptButNZ_of_changesOnly (changes_pullY s) (by simp) (by simp) 1
  refine ⟨fun h8 => ?_, fun h16 => ?_, hflags, hmem, congrArg (State.advance 1) (pullY_frame s)⟩
  · rw [pullY_of_wx (wx_of_x8 h8)]
    exact ⟨setWidth_eq_word _, nzOf_setNZ _ _, rfl⟩
  · rw [pullY_of_wx (wx_of_not_x8 h16)]
    exact ⟨BitVec.setWidth_eq _, nzOf_setNZ _ _, rfl⟩

/-! ### The flags under `FLAG_PROFILE`, and `WriteP` -/

/-- `profileNZ` after an operation that has not touched `P` sets the flags as R36 has it (10_state.md). -/
theorem profileFlags_profileNZ {n : Nat} (v : BitVec n) {s u : State} (hcfg : u.cfg = s.cfg) (hp : u.p = s.p)
    (k : Nat) : profileFlags v s ((profileNZ v u).advance k) := by
  unfold profileFlags profileNZ
  rw [hcfg]
  cases s.cfg.flagProfile with
  | source => exact hp
  | hardware =>
    refine ⟨nzOf_setNZ v u, fun f hf => ?_⟩
    have hkept : (u.setNZ v).flag f = u.flag f := changes_setNZ u v (.flag f) (by simpa using hf)
    exact hkept.trans (congrArg (flagOf · f) hp)

/-- PLB by the byte it pulls (45_stack.md R262). -/
theorem pullDbr_eq (s : State) :
    pullDbr s = profileNZ (s.pullByte 0) { s with dbr := s.pullByte 0, sp := pulledSpBy s.e 1 s.sp } := rfl

/-- PLD by the word it pulls (45_stack.md R263). -/
theorem pullD_eq (s : State) :
    pullD s = profileNZ (word (s.pullByte 1) (s.pullByte 0))
      { s with d := word (s.pullByte 1) (s.pullByte 0), sp := pulledSpBy s.e 2 s.sp } := rfl

/-- PLP changes nothing but `P`, the index registers and `S` (45_stack.md R264). -/
theorem writeP_pull8_frame (v : Byte) (s : State) :
    let t := s.pull8.2.writeP v
    t = { s with p := t.p, x := t.x, y := t.y, sp := t.sp } := by
  apply State.ext <;> simp

/-- The index registers after `WriteP`, by the X flag it has written (10_state.md R35). -/
theorem writeP_index_of_flag_x {v : Byte} {s : State} (h : (s.writeP v).flag .x = true) :
    (s.writeP v).x = word 0 (lo s.x) ∧ (s.writeP v).y = word 0 (lo s.y) := by
  rw [flag_def, writeP_p] at h
  rw [writeP_x, writeP_y, if_pos h, if_pos h]
  exact ⟨rfl, rfl⟩

theorem writeP_index_of_not_flag_x {v : Byte} {s : State} (h : (s.writeP v).flag .x = false) :
    (s.writeP v).x = s.x ∧ (s.writeP v).y = s.y := by
  rw [flag_def, writeP_p] at h
  simp [h]

end Sys2Proof.Machine

open Sys2Proof Sys2Proof.Machine

/-- Settles O38: three words pushed, the one of PEI read through its direct-page pointer. -/
theorem effectiveAddressPushes : Obligations.EffectiveAddressPushes := by
  intro s w rell b h p
  have hpei := push16_ends h 2 (s.mem.read16 p)
  rw [Memory.read16, hi_word, lo_word] at hpei
  exact ⟨⟨_, rfl, push16_ends h 3 w⟩, ⟨_, rfl, hpei⟩, ⟨_, rfl, push16_ends h 3 (s.pc + 3 + rell)⟩⟩

/-- Settles O39: `A`, `X` and `Y` are pushed at their widths, `D` as a word, the others as bytes. -/
theorem registerPushes : Obligations.RegisterPushes := fun s h =>
  ⟨⟨_, rfl, pushW_ends h 1 s.m8 s.a⟩, ⟨_, rfl, pushW_ends h 1 s.x8 s.x⟩, ⟨_, rfl, pushW_ends h 1 s.x8 s.y⟩,
    ⟨_, rfl, push16_ends h 1 s.d⟩, ⟨_, rfl, push8_ends h 1 s.dbr⟩, ⟨_, rfl, push8_ends h 1 s.pbr⟩,
    ⟨_, rfl, push8_ends h 1 s.p⟩⟩

/-- Settles O40: each pull is N and Z set on a state with its register and `S` written. -/
theorem registerPulls : Obligations.RegisterPulls := fun s =>
  ⟨⟨_, rfl, pullA_ends s⟩, ⟨_, rfl, pullX_ends s⟩, ⟨_, rfl, pullY_ends s⟩⟩

/-- Settles O41: PLB and PLD pull into their register and leave the flags to the profile; PLP pulls into `WriteP`. -/
theorem bankDirectAndStatusPulls : Obligations.BankDirectAndStatusPulls := by
  intro s
  refine ⟨⟨(pullDbr s).advance 1, rfl, ?_⟩, ⟨(pullD s).advance 1, rfl, ?_⟩,
    ⟨(s.pull8.2.writeP (s.pullByte 0)).advance 1, rfl, writeP_p _ _, writeP_sp_same _ _, writeP_index_of_flag_x,
      writeP_index_of_not_flag_x, fun b => congrArg (·.read b) (writeP_mem_same _ _),
      congrArg (State.advance 1) (writeP_pull8_frame _ s)⟩⟩
  · rw [pullDbr_eq]
    exact ⟨profileFlags_profileNZ _ (by rfl) (by rfl) 1, congrArg (State.advance 1) (profileNZ_frame _ _)⟩
  · rw [pullD_eq]
    exact ⟨profileFlags_profileNZ _ (by rfl) (by rfl) 1, congrArg (State.advance 1) (profileNZ_frame _ _)⟩
end

section
/-! Register transfers and exchanges (46_transfer.md R280 to R293). -/

namespace Sys2Proof.Machine

/-! ### Transfers at the destination's width (R280) -/

section
variable {s : State} {w : Width} (v : Word)

theorem transferToX_of_wx (h : s.wx = w) :
    transferToX v s = (s.setX (v.setWidth w.bits)).setNZ (v.setWidth w.bits) := by
  subst h
  rfl

theorem transferToY_of_wx (h : s.wx = w) :
    transferToY v s = (s.setY (v.setWidth w.bits)).setNZ (v.setWidth w.bits) := by
  subst h
  rfl

theorem transferToA_of_wm (h : s.wm = w) :
    transferToA v s = (s.setAcc w (v.setWidth w.bits)).setNZ (v.setWidth w.bits) := by
  subst h
  rfl

/-- A word taken at the index width and zero-extended is the word itself, where it fits: with `x8` its high byte is
zero (10_state.md R22). -/
theorem setWidth_setWidth_wx (h : s.x8 = true → hi v = 0) : (v.setWidth s.wx.bits).setWidth 16 = v := by
  cases hx : s.x8 with
  | true =>
    rw [wx_of_x8 hx]
    calc (v.setWidth 8).setWidth 16 = word 0 (lo v) := by rw [setWidth_eq_lo, setWidth_eq_word]
      _ = word (hi v) (lo v) := by rw [h hx]
      _ = v := word_hi_lo v
  | false =>
    rw [wx_of_not_x8 hx]
    exact (BitVec.setWidth_eq _).trans (BitVec.setWidth_eq v)

end

/-- TXY moves the whole register (R290), which under the invariant is its transfer at width `wx`. -/
theorem transferXY_eq_transferToY {s : State} (h : s.x8 = true → hi s.x = 0) : transferXY s = transferToY s.x s := by
  rw [transferXY, transferToY, State.setY, State.xLow, setWidth_setWidth_wx s.x h]

/-- TYX likewise (R292). -/
theorem transferYX_eq_transferToX {s : State} (h : s.x8 = true → hi s.y = 0) : transferYX s = transferToX s.y s := by
  rw [transferYX, transferToX, State.setX, State.yLow, setWidth_setWidth_wx s.y h]

theorem transferToX_ends (v : Word) (s : State) :
    let t := (transferToX v s).advance 1
    (s.x8 = true → t.x = word 0 (lo v) ∧ nzOf (lo v) t) ∧ (s.x8 = false → t.x = v ∧ nzOf v t) ∧
    flagsKept [.n, .z] s t ∧ memoryKept s t ∧ t = { s with x := t.x, p := t.p, pc := s.pc + 1 } := by
  obtain ⟨hflags, hmem⟩ := keptButNZ_of_changesOnly (changes_transferToX s v) (by simp) (by simp) 1
  refine ⟨fun h8 => ?_, fun h16 => ?_, hflags, hmem, congrArg (State.advance 1) (transferToX_frame v s)⟩
  · rw [transferToX_of_wx v (wx_of_x8 h8), ← setWidth_eq_lo v]
    exact ⟨setWidth_eq_word _, nzOf_setNZ _ _⟩
  · rw [transferToX_of_wx v (wx_of_not_x8 h16), BitVec.setWidth_eq v]
    exact ⟨BitVec.setWidth_eq v, nzOf_setNZ _ _⟩

theorem transferToY_ends (v : Word) (s : State) :
    let t := (transferToY v s).advance 1
    (s.x8 = true → t.y = word 0 (lo v) ∧ nzOf (lo v) t) ∧ (s.x8 = false → t.y = v ∧ nzOf v t) ∧
    flagsKept [.n, .z] s t ∧ memoryKept s t ∧ t = { s with y := t.y, p := t.p, pc := s.pc + 1 } := by
  obtain ⟨hflags, hmem⟩ := keptButNZ_of_changesOnly (changes_transferToY s v) (by simp) (by simp) 1
  refine ⟨fun h8 => ?_, fun h16 => ?_, hflags, hmem, congrArg (State.advance 1) (transferToY_frame v s)⟩
  · rw [transferToY_of_wx v (wx_of_x8 h8), ← setWidth_eq_lo v]
    exact ⟨setWidth_eq_word _, nzOf_setNZ _ _⟩
  · rw [transferToY_of_wx v (wx_of_not_x8 h16), BitVec.setWidth_eq v]
    exact ⟨BitVec.setWidth_eq v, nzOf_setNZ _ _⟩

theorem transferToA_ends (v : Word) (s : State) :
    let t := (transferToA v s).advance 1
    (s.m8 = true → t.a = word (hi s.a) (lo v) ∧ nzOf (lo v) t) ∧ (s.m8 = false → t.a = v ∧ nzOf v t) ∧
    flagsKept [.n, .z] s t ∧ memoryKept s t ∧ t = { s with a := t.a, p := t.p, pc := s.pc + 1 } := by
  obtain ⟨hflags, hmem⟩ := keptButNZ_of_changesOnly (changes_transferToA s v) (by simp) (by simp) 1
  refine ⟨fun h8 => ?_, fun h16 => ?_, hflags, hmem, congrArg (State.advance 1) (transferToA_frame v s)⟩
  · rw [transferToA_of_wm v (wm_of_m8 h8), ← setWidth_eq_lo v]
    exact ⟨rfl, nzOf_setNZ _ _⟩
  · rw [transferToA_of_wm v (wm_of_not_m8 h16), BitVec.setWidth_eq v]
    exact ⟨rfl, nzOf_setNZ _ _⟩

/-! ### Transfers of 16 bits, and XBA -/

/-- TDC and TSC at both widths (R285, R286). -/
theorem transferToC_ends (v : Word) (s : State) :
    let t := (transferToC v s).advance 1
    t.a = v ∧ nzOf v t ∧ flagsKept [.n, .z] s t ∧ memoryKept s t ∧
      t = { s with a := t.a, p := t.p, pc := s.pc + 1 } := by
  obtain ⟨hflags, hmem⟩ := keptButNZ_of_changesOnly (changes_transferToC s v) (by simp) (by simp) 1
  exact ⟨rfl, nzOf_setNZ _ _, hflags, hmem, congrArg (State.advance 1) (transferToC_frame v s)⟩

/-- TCD leaves the flags to the profile (R283; 10_state.md R36). -/
theorem transferToD_ends (s : State) :
    let t := (transferToD s).advance 1
    profileFlags s.a s t ∧ t = { s with d := s.a, p := t.p, pc := s.pc + 1 } :=
  ⟨profileFlags_profileNZ (u := { s with d := s.a }) _ rfl rfl 1, congrArg (State.advance 1) (profileNZ_frame _ _)⟩

/-- XBA likewise, for the new `AL` (R293; 10_state.md R36). -/
theorem exchangeHalves_ends (s : State) :
    let t := (exchangeHalves s).advance 1
    profileFlags (hi s.a) s t ∧ t = { s with a := word (lo s.a) (hi s.a), p := t.p, pc := s.pc + 1 } :=
  ⟨profileFlags_profileNZ (u := { s with a := word (lo s.a) (hi s.a) }) _ rfl rfl 1,
    congrArg (State.advance 1) (profileNZ_frame _ _)⟩

end Sys2Proof.Machine

open Sys2Proof Sys2Proof.Machine

/-- Settles O42: one shared operation for each destination; the invariant makes TXY and TYX two more uses of it. -/
theorem transfersByDestinationWidth : Obligations.TransfersByDestinationWidth := by
  intro s ⟨_, _, hindex, _⟩
  have htxy := transferToY_ends s.x s
  rw [← transferXY_eq_transferToY fun h8 => (hindex h8).1] at htxy
  have htyx := transferToX_ends s.y s
  rw [← transferYX_eq_transferToX fun h8 => (hindex h8).2] at htyx
  exact ⟨⟨_, rfl, transferToX_ends s.a s⟩, ⟨_, rfl, transferToY_ends s.a s⟩, ⟨_, rfl, transferToX_ends s.sp s⟩,
    ⟨_, rfl, htxy⟩, ⟨_, rfl, htyx⟩, ⟨_, rfl, transferToA_ends s.x s⟩, ⟨_, rfl, transferToA_ends s.y s⟩⟩

/-- Settles O43: TCS and TXS compute to their next state; the others are an operation on the whole accumulator or one
that leaves the flags to the profile. -/
theorem wideTransfersStackTransfersAndXba : Obligations.WideTransfersStackTransfersAndXba := fun s =>
  ⟨⟨_, rfl, transferToD_ends s⟩, ⟨_, rfl, transferToC_ends s.d s⟩, ⟨_, rfl, transferToC_ends s.sp s⟩, rfl, rfl,
    ⟨_, rfl, exchangeHalves_ends s⟩⟩
end

section
/-! Flag and status instructions (47_flags_status.md R300 to R309). -/

namespace Sys2Proof.Machine

/-! ### One flag written (R300 to R303, R305 to R307) -/

theorem setFlag_ends (f : Flag) (b : Bool) (s : State) :
    let t := (s.setFlag f b).advance 1
    t.flag f = b ∧ flagsKept [f] s t ∧ memoryKept s t ∧ t = { s with p := t.p, pc := s.pc + 1 } := by
  have changes := changes_setFlag s f b
  exact ⟨flagOf_withFlag_same s.p f b, flagsKept_advance_of_changesOnly changes (by simp) _,
    memoryKept_advance_of_changesOnly changes (by simp) _, rfl⟩

/-! ### `WriteP` of a masked status (R304, R308; 10_state.md R35) -/

theorem writeP_frame (v : Byte) (s : State) :
    s.writeP v = { s with p := (s.writeP v).p, x := (s.writeP v).x, y := (s.writeP v).y } := by
  apply State.ext <;> simp

theorem writeP_ends (v : Byte) (s : State) :
    let t := (s.writeP v).advance 2
    t.p = writtenP s.e v ∧ (t.flag .x = true → t.x = word 0 (lo s.x) ∧ t.y = word 0 (lo s.y)) ∧
    (t.flag .x = false → t.x = s.x ∧ t.y = s.y) ∧ memoryKept s t ∧
    t = { s with p := t.p, x := t.x, y := t.y, pc := s.pc + 2 } :=
  ⟨writeP_p v s, writeP_index_of_flag_x, writeP_index_of_not_flag_x,
    memoryKept_advance_of_changesOnly (changes_writeP s v) (by decide) 2,
    congrArg (State.advance 2) (writeP_frame v s)⟩

/-! ### XCE by the C it finds, which is the new E (R309) -/

/-- Emulation mode entered or kept, with its side effects (10_state.md R34). -/
theorem exchangeCE_of_carry {s : State} (h : s.flag .c = true) :
    exchangeCE s =
      { (({ s.setFlag .c s.e with e := true }.setFlag .m true).setFlag .x true).clearIndexHigh with
        sp := word 1 (lo s.sp) } := by
  simp [exchangeCE, h]

/-- Native mode entered or kept: C and E change and nothing more. -/
theorem exchangeCE_of_not_carry {s : State} (h : s.flag .c = false) :
    exchangeCE s = { s.setFlag .c s.e with e := false } := by
  simp [exchangeCE, h]

theorem exchangeCE_e (s : State) : (exchangeCE s).e = s.flag .c := by
  cases h : s.flag .c with
  | true => rw [exchangeCE_of_carry h]; rfl
  | false => rw [exchangeCE_of_not_carry h]

/-- M and X are written after C, and leave it the old E. -/
theorem exchangeCE_flag_c (s : State) : (exchangeCE s).flag .c = s.e := by
  cases h : s.flag .c with
  | true =>
    rw [exchangeCE_of_carry h]
    simp [flag_def, flagOf_withFlag]
  | false =>
    rw [exchangeCE_of_not_carry h]
    exact flagOf_withFlag_same s.p .c s.e

theorem exchangeCE_enters_emulation {s : State} (h : s.flag .c = true) :
    (exchangeCE s).flag .m = true ∧ (exchangeCE s).flag .x = true ∧ (exchangeCE s).x = word 0 (lo s.x) ∧
    (exchangeCE s).y = word 0 (lo s.y) ∧ (exchangeCE s).sp = word 1 (lo s.sp) := by
  rw [exchangeCE_of_carry h]
  exact ⟨by simp [flag_def, flagOf_withFlag], flagOf_withFlag_same _ .x true, rfl, rfl, rfl⟩

theorem exchangeCE_keeps_in_native {s : State} (h : s.flag .c = false) :
    (exchangeCE s).flag .m = s.flag .m ∧ (exchangeCE s).flag .x = s.flag .x ∧ (exchangeCE s).x = s.x ∧
    (exchangeCE s).y = s.y ∧ (exchangeCE s).sp = s.sp := by
  rw [exchangeCE_of_not_carry h]
  exact ⟨flagOf_withFlag_ne s.p s.e (by decide), flagOf_withFlag_ne s.p s.e (by decide), rfl, rfl, rfl⟩

end Sys2Proof.Machine

open Sys2Proof Sys2Proof.Machine

/-- Settles O44: each of the seven is one flag written and `PC` moved on by one. -/
theorem flagInstructions : Obligations.FlagInstructions := fun s =>
  ⟨⟨_, rfl, setFlag_ends .c false s⟩, ⟨_, rfl, setFlag_ends .d false s⟩, ⟨_, rfl, setFlag_ends .i false s⟩,
    ⟨_, rfl, setFlag_ends .v false s⟩, ⟨_, rfl, setFlag_ends .c true s⟩, ⟨_, rfl, setFlag_ends .d true s⟩,
    ⟨_, rfl, setFlag_ends .i true s⟩⟩

/-- Settles O45: both are `WriteP`, of `P` with the mask's flags cleared and of `P` with them set. -/
theorem repAndSepWriteSelectedFlags : Obligations.RepAndSepWriteSelectedFlags := fun s b =>
  ⟨⟨_, rfl, writeP_ends (s.p &&& ~~~b) s⟩, ⟨_, rfl, writeP_ends (s.p ||| b) s⟩⟩

/-- Settles O46: the exchange read off for either value of the old C, and its frame. -/
theorem xceExchangesCarryAndEmulation : Obligations.XceExchangesCarryAndEmulation := by
  intro s
  have changes := changes_exchangeCE s
  exact ⟨_, rfl, exchangeCE_flag_c s, exchangeCE_e s, exchangeCE_enters_emulation, exchangeCE_keeps_in_native,
    flagsKept_advance_of_changesOnly changes (by simp) 1, memoryKept_advance_of_changesOnly changes (by decide) 1,
    congrArg (State.advance 1) (exchangeCE_frame s)⟩
end

section
/-! Block moves: one byte of a move, and the whole block by induction on its length (48_block_move.md R320 to R322). -/

namespace Sys2Proof.Machine

/-! ### The index registers along a block -/

/-- What MVN and MVP add to the index registers for each byte (48_block_move.md R321, R322). -/
def blockDelta (up : Bool) : Word := if up then 1 else -1

/-- The row that moves bytes up (MVN) or down (MVP). -/
def blockInstr (up : Bool) (dst src : Byte) : Instr := if up then .mvn dst src else .mvp dst src

/-- How far the index registers are after `k` bytes of a block. -/
def blockOffset (up : Bool) (k : Nat) : Int := if up then k else -k

/-- An index register after `k` bytes of a block: `k` up or down, modulo `2^w`. `movedIndex_blockDelta` ties it to the
model. -/
def blockIndex (w : Width) (up : Bool) (r : Word) (k : Nat) : Word :=
  BitVec.ofInt 16 ((r.toNat + blockOffset up k) % 2 ^ w.bits)

theorem exec_blockInstr (up : Bool) (dst src : Byte) (s : State) :
    exec (blockInstr up dst src) s = .next (blockStep (blockDelta up) dst src s) := by
  cases up <;> rfl

/-- An index register moved at a width is its low part moved, zero-extended. -/
theorem movedIndex_eq (w : Width) (delta r : Word) :
    movedIndex w delta r = (r.setWidth w.bits + delta.setWidth w.bits).setWidth 16 := by
  have hw : w.bits ≤ 16 := by cases w <;> decide
  rw [movedIndex, BitVec.setWidth_add _ _ hw]

theorem blockOffset_succ (up : Bool) (k : Nat) : blockOffset up (k + 1) = blockOffset up 1 + blockOffset up k := by
  cases up <;> simp [blockOffset, Int.add_comm]

theorem toNat_blockIndex (w : Width) (up : Bool) (r : Word) (k : Nat) :
    ((blockIndex w up r k).toNat : Int) = (r.toNat + blockOffset up k) % 2 ^ w.bits := by
  rw [blockIndex, BitVec.toNat_ofInt]
  cases w <;> simp only [Width.bits] <;> omega

theorem blockIndex_zero {w : Width} {r : Word} (hr : r.toNat < 2 ^ w.bits) (up : Bool) : blockIndex w up r 0 = r := by
  have hoffset : blockOffset up 0 = 0 := by cases up <;> rfl
  have hfits : (r.toNat : Int) % 2 ^ w.bits = r.toNat := Int.emod_eq_of_lt (by omega) (by exact_mod_cast hr)
  rw [blockIndex, hoffset, Int.add_zero, hfits, BitVec.ofInt_natCast, BitVec.ofNat_toNat, BitVec.setWidth_eq]

/-- The rest of a block starts where its first byte leaves the index registers. -/
theorem blockIndex_blockIndex_one (w : Width) (up : Bool) (r : Word) (k : Nat) :
    blockIndex w up (blockIndex w up r 1) k = blockIndex w up r (k + 1) := by
  rw [blockIndex, toNat_blockIndex, Int.emod_add_emod, Int.add_assoc, ← blockOffset_succ, ← blockIndex]

/-- A block no longer than the index range does not come round to an address it has used. -/
theorem blockIndex_ne {w : Width} {j k : Nat} (hj : j < 2 ^ w.bits) (hk : k < 2 ^ w.bits) (hjk : j ≠ k) (up : Bool)
    (r : Word) : blockIndex w up r j ≠ blockIndex w up r k := by
  intro h
  have hjr := toNat_blockIndex w up r j
  have hkr := toNat_blockIndex w up r k
  rw [h, hkr] at hjr
  cases up <;> cases w <;> simp [blockOffset, Width.bits] at hj hk hjr <;> omega

/-- The model moves an index register by one byte of a block (48_block_move.md R320). -/
theorem movedIndex_blockDelta (w : Width) (up : Bool) (r : Word) :
    movedIndex w (blockDelta up) r = blockIndex w up r 1 := by
  apply BitVec.eq_of_toNat_eq
  have hindex := toNat_blockIndex w up r 1
  have hmoved : (movedIndex w (blockDelta up) r).toNat = (r.toNat + (blockDelta up).toNat) % 2 ^ w.bits := by
    cases w <;> simp only [movedIndex, Width.bits, BitVec.toNat_setWidth, BitVec.toNat_add] <;> omega
  have hdelta : (blockDelta up).toNat = if up then 1 else 65535 := by cases up <;> rfl
  rw [hdelta] at hmoved
  cases up <;> cases w <;> simp [blockOffset, Width.bits] at hindex hmoved <;> omega

/-- Under the invariant an index register fits its width (10_state.md R22). -/
theorem index_lt_of_inv {s : State} (h : s.Inv) : s.x.toNat < 2 ^ s.wx.bits ∧ s.y.toNat < 2 ^ s.wx.bits := by
  obtain ⟨-, -, hindex, -⟩ := h
  cases hx : s.x8 with
  | true =>
    obtain ⟨hX, hY⟩ := hindex hx
    rw [wx_of_x8 hx]
    exact ⟨(hi_eq_zero_iff _).mp hX, (hi_eq_zero_iff _).mp hY⟩
  | false =>
    rw [wx_of_not_x8 hx]
    exact ⟨s.x.isLt, s.y.isLt⟩

/-! ### The instruction ends with the byte that finds `A` zero -/

theorem sub_one_eq_ffff_iff (a : Word) : a - 1 = 0xFFFF ↔ a = 0 := by bv_omega

theorem blockStep_pc (delta : Word) (dst src : Byte) (s : State) :
    (blockStep delta dst src s).pc = if s.a = 0 then s.pc + 3 else s.pc := by
  simp only [blockStep, sub_one_eq_ffff_iff]

/-- One byte of a block move, its frame written out (48_block_move.md R320). -/
theorem blockStep_frame (delta : Word) (dst src : Byte) (s : State) :
    blockStep delta dst src s =
      { s with
        mem := (blockStep delta dst src s).mem, x := movedIndex s.wx delta s.x, y := movedIndex s.wx delta s.y
        a := s.a - 1, dbr := dst, pc := if s.a = 0 then s.pc + 3 else s.pc } := by
  rw [← blockStep_pc delta dst src s]
  rfl

theorem blockStep_ends {s : State} (h : Memory.wf s.mem = true) (delta : Word) (dst src : Byte) :
    let t := blockStep delta dst src s
    t.mem.read (addr dst s.y) = s.mem.read (addr src s.x) ∧ memoryKeptOutside [addr dst s.y] s t ∧
    t = { s with
      mem := t.mem, x := (s.xLow s.wx + delta.setWidth s.wx.bits).setWidth 16
      y := (s.yLow s.wx + delta.setWidth s.wx.bits).setWidth 16, a := s.a - 1, dbr := dst
      pc := if s.a = 0 then s.pc + 3 else s.pc } := by
  refine ⟨Memory.read_write_same h _ _, fun b hb => Memory.read_write_ne h _ (by simpa using hb), ?_⟩
  rw [State.xLow, State.yLow, ← movedIndex_eq, ← movedIndex_eq]
  exact blockStep_frame delta dst src s

/-! ### The whole block -/

/-- The block of `n` bytes has been moved from bank `src` to bank `dst`, and the instruction has ended
(48_block_move.md R320). -/
structure BlockMoved (up : Bool) (dst src : Byte) (n : Nat) (s t : State) : Prop where
  copied : ∀ k, k < n →
    t.mem.read (addr dst (blockIndex s.wx up s.y k)) = s.mem.read (addr src (blockIndex s.wx up s.x k))
  kept : memoryKeptOutside ((List.range n).map fun k => addr dst (blockIndex s.wx up s.y k)) s t
  frame : t = { s with
    mem := t.mem, a := 0xFFFF, x := blockIndex s.wx up s.x n, y := blockIndex s.wx up s.y n, dbr := dst
    pc := s.pc + 3 }

section
variable {s : State} (h : s.Inv) (up : Bool) (dst src : Byte)
include h

/-- The first byte of a block is at the index registers. -/
theorem blockStep_mem :
    (blockStep (blockDelta up) dst src s).mem =
      s.mem.write (addr dst (blockIndex s.wx up s.y 0)) (s.mem.read (addr src (blockIndex s.wx up s.x 0))) := by
  obtain ⟨hx, hy⟩ := index_lt_of_inv h
  rw [blockIndex_zero hx, blockIndex_zero hy]
  rfl

/-- The last byte of a block. -/
theorem blockMoved_one (ha : s.a = 0) : BlockMoved up dst src 1 s (blockStep (blockDelta up) dst src s) where
  copied := by
    intro k hk
    obtain rfl : k = 0 := by omega
    rw [blockStep_mem h, Memory.read_write_same h.1]
  kept := by
    intro b hb
    rw [blockStep_mem h, Memory.read_write_ne h.1 _ (by simpa using hb)]
  frame := by
    have hframe := blockStep_frame (blockDelta up) dst src s
    rwa [ha, if_pos rfl, movedIndex_blockDelta, movedIndex_blockDelta] at hframe

/-- A byte before the last, and then the rest of the block: the rest neither reads the byte just written, which is in
the other bank, nor writes it again. -/
theorem blockMoved_succ {n : Nat} {t : State} (hds : dst ≠ src) (ha : s.a ≠ 0) (hn : n + 1 ≤ 2 ^ s.wx.bits)
    (hrest : BlockMoved up dst src n (blockStep (blockDelta up) dst src s) t) : BlockMoved up dst src (n + 1) s t := by
  have hframe := blockStep_frame (blockDelta up) dst src s
  rw [if_neg ha, movedIndex_blockDelta, movedIndex_blockDelta] at hframe
  obtain ⟨hcopied, hkept, hend⟩ := hrest
  have hmem := blockStep_mem h up dst src
  generalize blockStep (blockDelta up) dst src s = u at *
  have hwx : u.wx = s.wx := by rw [hframe]; rfl
  have hx : u.x = blockIndex s.wx up s.x 1 := by rw [hframe]
  have hy : u.y = blockIndex s.wx up s.y 1 := by rw [hframe]
  simp only [hwx, hx, hy, blockIndex_blockIndex_one] at hcopied hkept hend
  refine ⟨fun k hk => ?_, fun b hb => ?_, ?_⟩
  · cases k with
    | zero =>
      have hfirst : addr dst (blockIndex s.wx up s.y 0) ∉
          (List.range n).map fun k => addr dst (blockIndex s.wx up s.y (k + 1)) := by
        simp only [List.mem_map, List.mem_range, not_exists, not_and, addr_inj, true_and]
        exact fun k hk => blockIndex_ne (by omega) (by omega) (by omega) up s.y
      rw [hkept _ hfirst, hmem, Memory.read_write_same h.1]
    | succ k =>
      have hbank : addr src (blockIndex s.wx up s.x (k + 1)) ≠ addr dst (blockIndex s.wx up s.y 0) :=
        fun e => hds ((addr_inj _ _ _ _).mp e).1.symm
      rw [hcopied k (by omega), hmem, Memory.read_write_ne h.1 _ hbank]
  · rw [List.range_succ_eq_map, List.map_cons, List.mem_cons, not_or, List.map_map] at hb
    obtain ⟨hfirst, hlater⟩ := hb
    rw [hkept b hlater, hmem, Memory.read_write_ne h.1 _ hfirst]
  · rw [hframe] at hend
    exact hend

end

theorem execTimes_succ {i : Instr} {s t : State} (h : exec i s = .next t) (k : Nat) :
    execTimes i (k + 1) s = execTimes i k t := by
  simp only [execTimes, h]

/-- `A + 1` executions move the block of `A + 1` bytes. -/
theorem execTimes_blockInstr (up : Bool) {dst src : Byte} (hds : dst ≠ src) (m : Nat) {s : State} (h : s.Inv)
    (ha : s.a.toNat = m) (hm : m + 1 ≤ 2 ^ s.wx.bits) :
    ∃ t, execTimes (blockInstr up dst src) (m + 1) s = .next t ∧ BlockMoved up dst src (m + 1) s t := by
  induction m generalizing s with
  | zero =>
    exact ⟨_, execTimes_succ (exec_blockInstr up dst src s) 0, blockMoved_one h up dst src (BitVec.eq_of_toNat_eq ha)⟩
  | succ m ih =>
    have hmore : s.a ≠ 0 := fun e => by simp [e] at ha
    have hleft : (s.a - 1).toNat = m := by bv_omega
    obtain ⟨t, hrun, hmoved⟩ := ih (inv_blockStep h (blockDelta up) dst src) hleft (Nat.le_of_succ_le hm)
    exact ⟨t, (execTimes_succ (exec_blockInstr up dst src s) (m + 1)).trans hrun,
      blockMoved_succ h up dst src hds hmore hm hmoved⟩

end Sys2Proof.Machine

open Sys2Proof Sys2Proof.Machine

/-- Settles O47: one byte written, and the index registers moved by what MVN or MVP adds, taken at their width. -/
theorem blockMoveMovesOneByte : Obligations.BlockMoveMovesOneByte := by
  intro s dst src h i d hi
  obtain ⟨delta, hexec, rfl⟩ :
      ∃ delta : Word, exec i s = .next (blockStep delta dst src s) ∧ d = delta.setWidth s.wx.bits := by
    obtain ⟨rfl, rfl⟩ | ⟨rfl, rfl⟩ := hi
    · exact ⟨1, rfl, by cases s.wx <;> rfl⟩
    · exact ⟨-1, rfl, by cases s.wx <;> rfl⟩
  exact ⟨_, hexec, blockStep_ends h delta dst src⟩

/-- Settles O48, by induction on the number of bytes left. -/
theorem blockMoveCopiesTheWholeBlock : Obligations.BlockMoveCopiesTheWholeBlock := by
  intro s dst src up h hds hfits
  obtain ⟨t, hrun, hcopied, hkept, hframe⟩ := execTimes_blockInstr up hds s.a.toNat h rfl hfits
  exact ⟨t, hrun, hcopied, hkept, hframe⟩
end

section
/-! Software traps, return from a trap, idle and reserved instructions (49_system.md R330 to R336), and the entry and
exit they share with the interrupts (60_exceptions.md R351 to R360). -/

namespace Sys2Proof.Machine

/-! ### The status byte of the frame (R354) -/

theorem pImage_native {s : State} (he : s.e = false) (k : Trap) : pImage k s = s.p := by simp [pImage, he]

theorem flagOf_pImage_emulation {s : State} (he : s.e = true) (k : Trap) (f : Flag) :
    flagOf (pImage k s) f = if f = .x then pushesB k else if f = .m then true else s.flag f := by
  simp only [pImage, he, if_true, flagOf_withFlag, flag_def]

theorem pushesB_eq (k : Trap) : pushesB k = decide (k = .brk ∨ k = .cop) := by cases k <;> rfl

/-! ### Trap entry (R352, R353, R360) -/

section
variable {s : State} (h : Memory.wf s.mem = true) (k : Trap) (ret : Word)
include h

theorem pushedBytes_pushFrame_emulation (he : s.e = true) :
    pushedBytes [hi ret, lo ret, pImage k s] s (s.pushFrame k ret) := by
  rw [State.pushFrame, if_pos he]
  have hret : pushedBytes [hi ret, lo ret] s (s.push16 ret) :=
    pushedBytes_push16 (pushedBytes_nil s) h rfl (by decide) ret
  exact pushedBytes_push8 hret (wf_push16 h _) rfl (by simp) _

theorem pushedBytes_pushFrame_native (he : s.e = false) :
    pushedBytes [s.pbr, hi ret, lo ret, s.p] s (s.pushFrame k ret) := by
  rw [State.pushFrame, if_neg (by simp [he]), pImage_native he]
  have hbank : pushedBytes [s.pbr] s (s.push8 s.pbr) := pushedBytes_push8 (pushedBytes_nil s) h rfl (by decide) _
  have hret : pushedBytes [s.pbr, hi ret, lo ret] s ((s.push8 s.pbr).push16 ret) :=
    pushedBytes_push16 hbank (wf_push8 h _) rfl (by simp) ret
  exact pushedBytes_push8 hret (wf_push16 (wf_push8 h _) _) rfl (by simp) _

/-- What the model's trap entry does, for every event and in both modes. -/
theorem trapEntered_trapEntry : trapEntered k ret s (s.trapEntry k ret) := by
  have changes := changes_trapEntry s k ret
  refine ⟨pushedBytes_pushFrame_emulation h k ret, pushedBytes_pushFrame_native h k ret, ?_, ?_, fun f hf => ?_, ?_,
    trapEntry_frame k ret s⟩
  · simp [State.trapEntry, flag_def, flagOf_withFlag]
  · simp [State.trapEntry, flag_def]
  · exact changes (.flag f) (by simpa using hf)
  · exact read16_pointerEA _ _

end

/-! ### Return from a trap (49_system.md R333) -/

/-- RTI by the bytes it pulls: `WriteP` of the first, `PC` of the next two, and `PBR` of a fourth in native mode. -/
theorem returnFromTrap_eq (s : State) :
    s.returnFromTrap =
      { s.writeP (s.pullByte 0) with
        pc := word (s.pullByte 2) (s.pullByte 1)
        sp := pulledSpBy s.e (if s.e then 3 else 4) s.sp
        pbr := if s.e then s.pbr else s.pullByte 3 } := by
  cases he : s.e <;> apply State.ext <;> simp [State.returnFromTrap, State.pullByte, pulledSpBy, he]

/-- `WriteP` where the index high bytes are zero as far as its X flag asks for it (10_state.md R22, R35). -/
theorem writeP_eq_of_index {s : State} {v : Byte}
    (h : flagOf (writtenP s.e v) .x = true → hi s.x = 0 ∧ hi s.y = 0) : s.writeP v = { s with p := writtenP s.e v } := by
  have kept (r : Word) (hr : hi r = 0) : word 0 (lo r) = r := by rw [← hr, word_hi_lo]
  rw [writeP_frame, writeP_p, writeP_x, writeP_y]
  cases hx : flagOf (writtenP s.e v) .x with
  | true => rw [if_pos rfl, if_pos rfl, kept _ (h hx).1, kept _ (h hx).2]
  | false => rfl

/-- Under the invariant `WriteP` of the status byte a trap has pushed restores `P`: bits 5 and 4 were 1 in emulation
mode (10_state.md R33). -/
theorem writtenP_pImage {s : State} (h : s.Inv) (k : Trap) : writtenP s.e (pImage k s) = s.p := by
  obtain ⟨-, hmx, -, -⟩ := h
  cases he : s.e with
  | false => exact pImage_native he k
  | true =>
    obtain ⟨hm, hx⟩ := hmx he
    refine status_ext fun f => ?_
    rw [flagOf_writtenP, flagOf_pImage_emulation he, ← flag_def]
    by_cases hfm : f = .m
    · simp [hfm, hm]
    · by_cases hfx : f = .x
      · simp [hfx, hx]
      · simp [hfm, hfx]

section
variable {s t : State} (h : s.Inv) {ret : Word}
include h

/-- RTI gives back the registers of `s` where it pulls them, in a state that has kept the others. -/
theorem returnFromTrap_of_pulls (hframe : t = { s with mem := t.mem, sp := t.sp, p := t.p, pc := t.pc, pbr := 0 })
    (hp : writtenP s.e (t.pullByte 0) = s.p) (hpc : word (t.pullByte 2) (t.pullByte 1) = ret)
    (hsp : pulledSpBy s.e (if s.e then 3 else 4) t.sp = s.sp) (hpbr : s.e = false → t.pullByte 3 = s.pbr) :
    t.returnFromTrap = { s with mem := t.mem, pc := ret, pbr := if s.e then 0 else s.pbr } := by
  have he : t.e = s.e := by rw [hframe]
  have hbank : (if s.e then t.pbr else t.pullByte 3) = if s.e then 0 else s.pbr := by
    rw [show t.pbr = 0 by rw [hframe]]
    cases hes : s.e with
    | true => rfl
    | false => exact hpbr hes
  have hindex : flagOf s.p .x = true → hi t.x = 0 ∧ hi t.y = 0 := fun hx => by
    obtain ⟨-, -, hindex, -⟩ := h
    rw [hframe]
    exact hindex (by rw [State.x8, flag_def, hx, Bool.or_true])
  have hwritten : t.writeP (t.pullByte 0) = { t with p := s.p } := by
    rw [writeP_eq_of_index (by rwa [he, hp]), he, hp]
  rw [returnFromTrap_eq, he, hpc, hsp, hbank, hwritten]
  exact congrArg (fun u : State => { u with p := s.p, pc := ret, sp := s.sp, pbr := if s.e then 0 else s.pbr }) hframe

/-- RTI after a trap's entry gives back the state before it, with the return address in `PC`; in emulation mode `PBR`
was not saved (60_exceptions.md R353, R359). -/
theorem returnFromTrap_of_trapEntered {k : Trap} (ht : trapEntered k ret s t) :
    t.returnFromTrap = { s with mem := t.mem, pc := ret, pbr := if s.e then 0 else s.pbr } := by
  obtain ⟨hemulation, hnative, -, -, -, -, hframe⟩ := ht
  have he : t.e = s.e := by rw [hframe]
  have hstatus := writtenP_pImage h k
  obtain hes | hes := Bool.eq_false_or_eq_true s.e
  · have hpushed := hemulation hes
    have hp : t.pullByte 0 = pImage k s := pullByte_of_pushedBytes (j := 2) hpushed he rfl
    have hlow : t.pullByte 1 = lo ret := pullByte_of_pushedBytes (j := 1) hpushed he rfl
    have hhigh : t.pullByte 2 = hi ret := pullByte_of_pushedBytes (j := 0) hpushed he rfl
    have hsp : pulledSpBy t.e 3 t.sp = s.sp := pulledSpBy_of_pushedBytes hpushed he
    exact returnFromTrap_of_pulls h hframe (by rw [hp, hstatus]) (by rw [hlow, hhigh, word_hi_lo])
      (by rw [if_pos hes, ← he, hsp]) (fun hn => by simp [hes] at hn)
  · have hpushed := hnative hes
    have hp : t.pullByte 0 = pImage k s :=
      (pullByte_of_pushedBytes (j := 3) hpushed he rfl).trans (pImage_native hes k).symm
    have hlow : t.pullByte 1 = lo ret := pullByte_of_pushedBytes (j := 2) hpushed he rfl
    have hhigh : t.pullByte 2 = hi ret := pullByte_of_pushedBytes (j := 1) hpushed he rfl
    have hbank : t.pullByte 3 = s.pbr := pullByte_of_pushedBytes (j := 0) hpushed he rfl
    have hsp : pulledSpBy t.e 4 t.sp = s.sp := pulledSpBy_of_pushedBytes hpushed he
    exact returnFromTrap_of_pulls h hframe (by rw [hp, hstatus]) (by rw [hlow, hhigh, word_hi_lo])
      (by rw [if_neg (by simp [hes]), ← he, hsp]) (fun _ => hbank)

end

end Sys2Proof.Machine

open Sys2Proof Sys2Proof.Machine

/-- Settles O49: the table of vectors, and the status byte of each mode. -/
theorem vectorsAndStackedStatus : Obligations.VectorsAndStackedStatus := by
  refine ⟨rfl, rfl, rfl, rfl, rfl, rfl, rfl, rfl, rfl, rfl, fun s k he => pImage_native he k, fun s k he => ?_⟩
  have hflag := flagOf_pImage_emulation he k
  exact ⟨hflag .m, (hflag .x).trans (pushesB_eq k), fun f hm hx => by rw [hflag, if_neg hx, if_neg hm]⟩

/-- Settles O50: both are the trap entry with the address after their signature byte. -/
theorem brkAndCopEnterTheirTraps : Obligations.BrkAndCopEnterTheirTraps := fun _ _ h =>
  ⟨⟨_, rfl, trapEntered_trapEntry h .brk _⟩, ⟨_, rfl, trapEntered_trapEntry h .cop _⟩⟩

/-- Settles O51: RTI read off the bytes it pulls. -/
theorem rtiReturnsFromATrap : Obligations.RtiReturnsFromATrap := by
  intro s
  refine ⟨_, exec_rti s, ?_⟩
  have hframe := returnFromTrap_frame s
  rw [returnFromTrap_eq] at hframe ⊢
  exact ⟨writeP_p _ s, rfl, fun he => by simp [he], fun he => by simp [he], writeP_index_of_flag_x,
    writeP_index_of_not_flag_x, fun b => congrArg (·.read b) (writeP_mem_same _ s), hframe⟩

/-- Settles O52: what the trap has left is what RTI gives back. -/
theorem rtiUndoesASoftwareTrap : Obligations.RtiUndoesASoftwareTrap := by
  intro s t b h htrap
  obtain ⟨k, rfl⟩ : ∃ k, s.trapEntry k (s.pc + 2) = t :=
    htrap.elim (fun e => ⟨.brk, Host.Outcome.next.inj e⟩) (fun e => ⟨.cop, Host.Outcome.next.inj e⟩)
  rw [exec_rti, returnFromTrap_of_trapEntered h (trapEntered_trapEntry h.1 k (s.pc + 2))]

/-- Settles O53. -/
theorem idleAndReservedInstructions : Obligations.IdleAndReservedInstructions := by
  intro s
  refine ⟨rfl, ?_, rfl, rfl⟩
  have hwdm : exec .wdm s = .next (s.advance (wdmBytes s.cfg)) := rfl
  rw [hwdm, State.advance, wdmBytes]
  cases s.cfg.wdmLength <;> rfl
end

section
/-! The step: what it does at an instruction boundary (60_exceptions.md R355 to R364), the reset sequence
(70_reset_and_hazards.md R400), and that it always answers a next state (R350). -/

namespace Sys2Proof.Machine

/-! ### What a boundary decides, signal by signal (R357, R358) -/

section
variable {s : State}

theorem boundary_of_reset (h : s.resetLine = true) : s.boundary = some s.resetSequence := by
  simp [State.boundary, h]

section
variable (hreset : s.resetLine = false)
include hreset

theorem boundary_of_stopped (hrun : s.run = .stopped) : s.boundary = some s := by
  simp [State.boundary, hreset, hrun]

theorem boundary_of_abort (hrun : s.run ≠ .stopped) (ha : s.cfg.abortAsserted = true) (habort : s.abortLine = true) :
    s.boundary = some (s.takeInterrupt .abort) := by
  simp [State.boundary, hreset, hrun, ha, habort]

section
variable (habort : s.cfg.abortAsserted = false ∨ s.abortLine = false)
include habort

/-- With RESET and ABORT out of the way and the processor not stopped, NMI, IRQ and `run` decide. -/
theorem boundary_of_no_abort (hrun : s.run ≠ .stopped) :
    s.boundary =
      if s.nmiPending then some ({ s with nmiPending := false }.takeInterrupt .nmi)
      else if s.irqLine && !s.flag .i then some (s.takeInterrupt .irq)
      else if s.irqLine && decide (s.run = .waiting) then some { s with run := .running }
      else if s.run = .running then none
      else some s := by
  have hnone : (s.cfg.abortAsserted && s.abortLine) = false := Bool.and_eq_false_iff.mpr habort
  simp only [State.boundary, hreset, hrun, hnone, Bool.false_eq_true, if_false]

theorem boundary_of_nmi (hrun : s.run ≠ .stopped) (hnmi : s.nmiPending = true) :
    s.boundary = some ({ s with nmiPending := false }.takeInterrupt .nmi) := by
  rw [boundary_of_no_abort hreset habort hrun, if_pos hnmi]

section
variable (hnmi : s.nmiPending = false)
include hnmi

theorem boundary_of_irq (hrun : s.run ≠ .stopped) (hirq : s.irqLine = true) (hi : s.flag .i = false) :
    s.boundary = some (s.takeInterrupt .irq) := by
  rw [boundary_of_no_abort hreset habort hrun]
  simp [hnmi, hirq, hi]

theorem boundary_of_waiting_masked (hrun : s.run = .waiting) (hirq : s.irqLine = true) (hi : s.flag .i = true) :
    s.boundary = some { s with run := .running } := by
  rw [boundary_of_no_abort hreset habort (by simp [hrun])]
  simp [hnmi, hirq, hi, hrun]

theorem boundary_of_waiting_quiet (hrun : s.run = .waiting) (hirq : s.irqLine = false) : s.boundary = some s := by
  rw [boundary_of_no_abort hreset habort (by simp [hrun])]
  simp [hnmi, hirq, hrun]

theorem boundary_of_running (hrun : s.run = .running) (hirq : s.irqLine = false ∨ s.flag .i = true) :
    s.boundary = none := by
  have hmasked : (s.irqLine && !s.flag .i) = false := by
    obtain hirq | hi := hirq
    · simp [hirq]
    · simp [hi]
  rw [boundary_of_no_abort hreset habort (by simp [hrun])]
  simp [hnmi, hmasked, hrun]

end
end
end

/-! ### A step is what the boundary decides, or the instruction fetched -/

theorem step_of_boundary {t : State} (h : s.boundary = some t) : step s = .next t := by
  simp only [step, h]

theorem trapEntered_takeInterrupt (h : Memory.wf s.mem = true) (k : Trap) :
    trapEntered k s.pc { s with run := .running } (s.takeInterrupt k) :=
  trapEntered_trapEntry (s := { s with run := .running }) h k s.pc

end

/-! ### The reset sequence (70_reset_and_hazards.md R400) -/

/-- The status byte after reset, flag by flag (10_state.md R45). -/
theorem flagOf_resetP (n v z c : Bool) (f : Flag) :
    flagOf (resetP n v z c) f =
      match f with
      | .n => n
      | .v => v
      | .m | .x | .i => true
      | .d => false
      | .z => z
      | .c => c := by
  rw [resetP]
  cases f <;> simp [flagOf_withFlag] <;> rfl

/-! ### No step stops (60_exceptions.md R350, 30_encoding.md R96) -/

/-- Three bytes are enough for the operand of any row (30_encoding.md R90, R91). -/
theorem exists_read_eq_ok (m8 x8 : Bool) (r : Row) (b1 b2 b3 : Byte) : ∃ i, r.read m8 x8 [b1, b2, b3] = .ok i := by
  cases r with
  | immM mk => cases m8 <;> exact ⟨_, rfl⟩
  | immX mk => cases x8 <;> exact ⟨_, rfl⟩
  | op | op8 | op16 | op24 | blk => exact ⟨_, rfl⟩

theorem length_opcodeTable : opcodeTable.length = 256 := by
  simp only [opcodeTable, List.length_append]
  rfl

/-- Every byte is an assigned opcode (30_encoding.md R96). -/
theorem exists_row (op : Byte) : ∃ r, opcodeTable[op.toNat]? = some r :=
  ⟨_, List.getElem?_eq_getElem (by rw [length_opcodeTable]; exact op.isLt)⟩

/-- The four bytes at `PBR:PC` always decode. -/
theorem exists_fetchInstr_eq_ok (s : State) : ∃ i, s.fetchInstr = .ok i := by
  obtain ⟨r, hr⟩ := exists_row (s.fetch8 0)
  obtain ⟨i, hi⟩ := exists_read_eq_ok s.m8 s.x8 r (s.fetch8 1) (s.fetch8 2) (s.fetch8 3)
  exact ⟨i, decode_cons_eq_ok_iff.mpr ⟨r, hr, hi⟩⟩

theorem takeInterrupt_cfg (k : Trap) (s : State) : (s.takeInterrupt k).cfg = s.cfg := by rw [takeInterrupt_frame]

/-- Nothing a boundary decides writes the parameters (00_scope.md R5). -/
theorem boundary_cfg {s t : State} (h : s.boundary = some t) : t.cfg = s.cfg := by
  obtain ⟨-, hb⟩ | ⟨-, -, hb⟩ | ⟨-, -, ⟨-, -, hb⟩ | ⟨-, ⟨-, hb⟩ | ⟨-, ⟨-, -, hb⟩ | ⟨-, -, -, hb⟩ | ⟨-, -, hb⟩ |
    ⟨-, -, hb⟩⟩⟩⟩ := boundary_cases s
  all_goals
    rw [hb] at h
    cases h
  exacts [rfl, rfl, takeInterrupt_cfg _ _, takeInterrupt_cfg _ _, takeInterrupt_cfg _ _, rfl, rfl]

/-- No instruction writes them either. -/
theorem exec_cfg {i : Instr} {s t : State} (h : exec i s = .next t) : t.cfg = s.cfg := by
  obtain ⟨-, -, -, -, -, -, -, -, -, -, -, -, hcfg⟩ := registersHaveOnlyTheirWriters i s t h
  exact hcfg

end Sys2Proof.Machine

open Sys2Proof Sys2Proof.Machine

/-- Settles O1: nothing is taken at the boundary, and what is fetched is `i`. -/
theorem stepRunsTheDecodedInstruction : Obligations.StepRunsTheDecodedInstruction :=
  fun _ _ hreset hrun hnmi hirq habort hdecode _ =>
    step_of_fetchInstr (boundary_of_running hreset habort hnmi hrun hirq) hdecode

/-- Settles O2: the boundary decides a state, or an instruction is fetched, and each of those answers one. -/
theorem stepAlwaysAnswersANextState : Obligations.StepAlwaysAnswersANextState := by
  intro s
  cases hb : s.boundary with
  | some t => exact ⟨t, step_of_boundary hb, boundary_cfg hb⟩
  | none =>
    obtain ⟨i, hi⟩ := exists_fetchInstr_eq_ok s
    have hexec := exec_eq_effect i s
    exact ⟨_, (step_of_fetchInstr hb hi).trans hexec, exec_cfg hexec⟩

/-- Settles O54: both are taken at the boundary, and taking one is a trap entry. -/
theorem interruptsAreTakenBetweenInstructions : Obligations.InterruptsAreTakenBetweenInstructions :=
  fun s h hreset hrun habort =>
    ⟨fun hnmi => ⟨_, step_of_boundary (boundary_of_nmi hreset habort hrun hnmi),
        trapEntered_takeInterrupt (s := { s with nmiPending := false }) h .nmi⟩,
      fun hnmi hirq hi => ⟨_, step_of_boundary (boundary_of_irq hreset habort hnmi hrun hirq hi),
        trapEntered_takeInterrupt h .irq⟩⟩

/-- Settles O55: the boundary while waiting, while stopped, and with ABORT asserted. -/
theorem waitingStoppedAndAbort : Obligations.WaitingStoppedAndAbort :=
  ⟨fun _ hreset hrun hnmi habort =>
      ⟨fun hirq hi => step_of_boundary (boundary_of_waiting_masked hreset habort hnmi hrun hirq hi),
        fun hirq => step_of_boundary (boundary_of_waiting_quiet hreset habort hnmi hrun hirq)⟩,
    fun _ hreset hrun => step_of_boundary (boundary_of_stopped hreset hrun),
    fun _ h ha hreset hrun habort => ⟨_, step_of_boundary (boundary_of_abort hreset hrun ha habort),
      trapEntered_takeInterrupt h .abort⟩⟩

/-- Settles O4: the step is the reset sequence, whose status byte is read off flag by flag. -/
theorem resetLineResetsFromAnyState : Obligations.ResetLineResetsFromAnyState := by
  intro s h
  have hflag (f : Flag) := flagOf_resetP s.resetDraw.n s.resetDraw.v s.resetDraw.z s.resetDraw.c f
  refine ⟨s.resetSequence, step_of_boundary (boundary_of_reset h), rfl, hflag .m, hflag .x, hflag .i, hflag .d,
    hi_word _ _, hi_word _ _, hi_word _ _, rfl, rfl, rfl, read16_pointerEA s.mem resetVector, rfl, rfl, fun _ => rfl,
    rfl, rfl, rfl, rfl, rfl, fun r hr => ?_⟩
  have hdraw := resetDraw_given hr
  exact ⟨congrArg (·.a) hdraw, (lo_word _ _).trans (congrArg (·.xl) hdraw), (lo_word _ _).trans (congrArg (·.yl) hdraw),
    (lo_word _ _).trans (congrArg (·.sl) hdraw), (hflag .n).trans (congrArg (·.n) hdraw),
    (hflag .v).trans (congrArg (·.v) hdraw), (hflag .z).trans (congrArg (·.z) hdraw),
    (hflag .c).trans (congrArg (·.c) hdraw)⟩
end
